-- ==== Sys2Proof/Word.lean ====
section
/-! DEFINITION. The word types of the core (spec/00_scope.md R9, R11): registers are 8 bits wide, pairs, PC, SP and addresses 16 bits. -/

namespace Sys2Proof

/-- A `u8` value (R11): a register, a memory byte, an opcode byte. -/
abbrev Byte := BitVec 8

/-- A `u16` value (R11): a register pair, PC, SP, an address. -/
abbrev Word := BitVec 16

end Sys2Proof
end

