-- ==== Sys2Proof/Config.lean ====
section
/-! DEFINITION. What an implementation fixes (the named parameters of spec/00_scope.md R10) and the one free value. -/

namespace Sys2Proof

/-- An opcode of one of the two dispatch spaces (spec/10_state.md R37): a primary byte, or the byte after 0xCB. -/
inductive Opcode where
  | primary (op : Byte)
  | extended (xop : Byte)
deriving DecidableEq, Repr

/-- What has reached the hooked peripherals, oldest first: the argument of the free value `Config.hookRead`
(spec/20_memory.md R54; DESIGN CHOICE, log entry 5). -/
inductive HookEvent where
  /-- A bus write to a hooked address. -/
  | write (addr : Word) (v : Byte)
  /-- The device acted on its own between two steps (92_eei_decisions.md D21). -/
  | acted
  /-- The core was reset by the host. -/
  | coreReset
deriving DecidableEq, Repr

/-- REG_RESET (R10, D9): the values A, B, C, D, E, H, L take at reset. -/
structure RegInit where
  a : Byte
  b : Byte
  c : Byte
  d : Byte
  e : Byte
  h : Byte
  l : Byte
deriving DecidableEq, Repr

/-- The named parameters of R10. They are fixed for one machine: no step and no host action changes them. -/
structure Params where
  /-- REG_RESET (D9). -/
  regReset : RegInit
  /-- RAM_INIT (D10): the RAM bytes that do not start as 0x00, by storage address, addresses rising. -/
  ramInit : List Host.Cell
  /-- EXTRAM_PRESENT (D8): whether 0xA000-0xBFFF is 8 KiB of plain RAM. -/
  extramPresent : Bool
  /-- TIMER_RELOAD_DELAY (D4) in clock cycles; legal 1..15 (`legalParams` in Safety.lean). -/
  timerReloadDelay : Nat
  /-- The defined opcodes left out of IMPLEMENTED_SET (D29): any of the 245 primary ones, the prefix `.primary 0xCB` among
  them, and of the 256 extended ones. -/
  leftOut : List Opcode
  /-- The I/O addresses PERIPHERAL_HOOK is defined for (D20). An owned address is never hooked (R54). -/
  hooked : List Word
deriving DecidableEq, Repr

/-- The defaults of R10: RAM 0x00, no external RAM, delay 4, everything implemented, no hook.
REG_RESET is free in the spec; 0x00 is the reference simulator's draw (DESIGN CHOICE, unsafe, log entry 1). -/
def Params.default : Params where
  regReset := ⟨0, 0, 0, 0, 0, 0, 0⟩
  ramInit := []
  extramPresent := false
  timerReloadDelay := 4
  leftOut := []
  hooked := []

/-- FREE VALUE: what a hooked peripheral answers to a bus read (`hook_read(a)` of R52). It has no body, so nothing can be
proved of its value; it may depend on everything that has reached the device and on the address (log entry 5). -/
opaque Config.hookRead : List HookEvent → Word → Byte

end Sys2Proof
end

