-- ==== Sys2Proof/Machine/Bits.lean ====
section
/-! DEFINITION. Byte order, sign extension and the opcode's fields (spec/00_scope.md R11, spec/30_encoding.md R71). -/

namespace Sys2Proof

/-- `{h, l}` of R11: `h * 256 + l`. -/
def joinBytes (hi lo : Byte) : Word := hi ++ lo

/-- `v[15:8]`. -/
def hiByte (v : Word) : Byte := v.extractLsb' 8 8

/-- `v[7:0]`. -/
def loByte (v : Word) : Byte := v.extractLsb' 0 8

/-- `sext_16(v)` of R11. -/
def sext16 (v : Byte) : Word := v.signExtend 16

/-- `zext_16(v)` of R11. -/
def zext16 (v : Byte) : Word := v.zeroExtend 16

/-- The address `0xFF00 + v` of R73 and rules R101 to R104. -/
def highPage (v : Byte) : Word := 0xFF00#16 + zext16 v

/-- `x = o[7:6]` (R71). -/
def fieldX (o : Byte) : Nat := o.toNat / 64

/-- `y = o[5:3]` (R71). -/
def fieldY (o : Byte) : Nat := o.toNat / 8 % 8

/-- `z = o[2:0]` (R71). -/
def fieldZ (o : Byte) : Nat := o.toNat % 8

/-- `p = o[5:4]` (R71). -/
def fieldP (o : Byte) : Nat := o.toNat / 16 % 4

/-- `q = o[3]` (R71). -/
def fieldQ (o : Byte) : Nat := o.toNat / 8 % 2

end Sys2Proof
end

