-- ==== Sys2Proof/WellFormed.lean ====
section
/-! DEFINITION. Which terms of `Instr` stand for an instruction of spec/opcode_table.json. -/

namespace Sys2Proof

/-- The eleven undefined primary bytes (spec/30_encoding.md R76). -/
def undefinedOpcodes : List Byte :=
  [0xD3, 0xDB, 0xDD, 0xE3, 0xE4, 0xEB, 0xEC, 0xED, 0xF4, 0xFC, 0xFD]

/-- The one check: the operand of `undefined` is one of the eleven bytes. Every other operand has exactly the width its
encoding gives it (R70, R73), so every value of it is encodable. -/
def Instr.wellFormed : Instr → Bool
  | .undefined opcode => undefinedOpcodes.contains opcode
  | _ => true

end Sys2Proof
end

