-- ==== Sys2Proof/Machine/Memory.lean ====
section
/-! DEFINITION. Stored bytes in one canonical form, and the address map of the bus (spec/20_memory.md R40 to R51). -/

namespace Sys2Proof.Machine

/-! ## Stored bytes: a list of cells, addresses rising, no cell equal to what an unlisted address reads as -/

/-- What an address that no cell lists reads as: 0x00, the ROM before loadROM (92_eei_decisions.md D18) and the default
RAM_INIT (D10, log entry 2). -/
def Memory.unlisted (_addr : Nat) : Byte := 0x00

/-- The byte stored at an address. -/
def Memory.read (m : List Host.Cell) (addr : Nat) : Byte :=
  match m with
  | [] => Memory.unlisted addr
  | cell :: rest => if cell.1 = addr then cell.2 else Memory.read rest addr

/-- A new cell at its place in the rising order. -/
def Memory.insert (addr : Nat) (v : Byte) (m : List Host.Cell) : List Host.Cell :=
  match m with
  | [] => [(addr, v)]
  | cell :: rest => if addr < cell.1 then (addr, v) :: cell :: rest else cell :: Memory.insert addr v rest

/-- The cells whose address is not `addr`. -/
def Memory.erase (addr : Nat) (m : List Host.Cell) : List Host.Cell :=
  m.filter fun cell => cell.1 != addr

/-- Store a byte: the old cell goes, and a new one comes unless the byte is what an unlisted address reads as. -/
def Memory.write (m : List Host.Cell) (addr : Nat) (v : Byte) : List Host.Cell :=
  if v = Memory.unlisted addr then Memory.erase addr m else Memory.insert addr v (Memory.erase addr m)

/-- Whether every address of `m` is above `low`, and the addresses rise. -/
def Memory.risingFrom (low : Nat) (m : List Host.Cell) : Bool :=
  match m with
  | [] => true
  | cell :: rest => decide (low ≤ cell.1) && Memory.risingFrom (cell.1 + 1) rest

/-- The canonical form: addresses strictly rising, no cell that says what an unlisted address says. -/
def Memory.wf (m : List Host.Cell) : Bool :=
  Memory.risingFrom 0 m && m.all fun cell => cell.2 != Memory.unlisted cell.1

/-! ## The address map -/

/-- What an address selects on the bus (R42, R49). -/
inductive BusTarget where
  /-- A byte of the ROM image: read-only (R43). -/
  | rom (addr : Nat)
  /-- A byte of plain storage, by its storage address (echo addresses already redirected, R46). -/
  | ram (addr : Nat)
  /-- No storage: reads 0xFF, a write is dropped (R45, R48). -/
  | unmapped
  | div
  | tima
  | tma
  | tac
  | iflag
  | ie
  /-- An I/O address PERIPHERAL_HOOK is defined for (R54). -/
  | hook (addr : Word)
deriving DecidableEq, Repr

/-- 0x8000-0xFDFF (R44 to R46): VRAM, external RAM when present, WRAM, and the echo of WRAM at address - 0x2000. -/
def ramTarget (p : Params) (a : Nat) : BusTarget :=
  if a ≤ 0x9FFF then .ram a
  else if a ≤ 0xBFFF then (if p.extramPresent then .ram a else .unmapped)
  else if a ≤ 0xDFFF then .ram a
  else .ram (a - 0x2000)

/-- 0xFF00-0xFF7F (R49, R54): the five owned registers, then a hooked address, then plain storage. -/
def ioTarget (p : Params) (addr : Word) : BusTarget :=
  if addr = 0xFF04 then .div
  else if addr = 0xFF05 then .tima
  else if addr = 0xFF06 then .tma
  else if addr = 0xFF07 then .tac
  else if addr = 0xFF0F then .iflag
  else if p.hooked.contains addr then .hook addr
  else .ram addr.toNat

/-- 0xFE00-0xFFFF (R47 to R51): OAM, the unusable area, the I/O addresses, HRAM, IE. -/
def topTarget (p : Params) (addr : Word) : BusTarget :=
  if addr.toNat ≤ 0xFE9F then .ram addr.toNat
  else if addr.toNat ≤ 0xFEFF then .unmapped
  else if addr.toNat ≤ 0xFF7F then ioTarget p addr
  else if addr.toNat ≤ 0xFFFE then .ram addr.toNat
  else .ie

/-- The decision list of R52 and R53, in the order of the address map (R42). -/
def busTarget (p : Params) (addr : Word) : BusTarget :=
  if addr.toNat ≤ 0x7FFF then .rom addr.toNat
  else if addr.toNat ≤ 0xFDFF then ramTarget p addr.toNat
  else topTarget p addr

/-- Whether `addr` is the storage address of a RAM byte: VRAM, external RAM when present, WRAM, OAM, plain I/O, HRAM. -/
def isRamAddress (p : Params) (addr : Nat) : Bool :=
  decide (addr < 65536) && decide (busTarget p (BitVec.ofNat 16 addr) = .ram addr)

/-- Whether `addr` is an address of the ROM image. -/
def isRomAddress (addr : Nat) : Bool := decide (addr < 0x8000)

/-- What RAM_INIT puts into RAM (R214, step 5). -/
def initialRam (p : Params) : List Host.Cell :=
  p.ramInit.filter fun cell => isRamAddress p cell.1

/-- The image `loadROM` installs (R55): at most 32768 bytes, zero-padded. A 0x00 byte needs no cell. -/
def romCells (image : List Byte) : List Host.Cell :=
  ((image.take 0x8000).zipIdx.map fun entry => (entry.2, entry.1)).filter fun cell => cell.2 != 0x00

end Sys2Proof.Machine
end

