-- ==== Sys2Proof/Machine/State.lean ====
section
/-! DEFINITION. Everything the spec gives the machine (spec/10_state.md), and the state after reset (R39, R214). -/

namespace Sys2Proof.Machine

/-- Why a step stops. -/
inductive Fault where
  /-- Raised by `step` on a core whose fault latch already holds `DecodeError(addr, byte)`: the outcome `Fault(addr, byte)`
  of spec/60_exceptions.md R177, which changes no state and never ends without `reset()`. Safe: the spec says no step goes on. -/
  | latchedDecodeError (addr : Word) (byte : Byte)
deriving DecidableEq, Repr

/-- Why an instruction has no meaning. -/
inductive Refusal where
  /-- Raised by an arm of `exec` whose instruction has no meaning yet. Safe. No arm raises it now. -/
  | notModelled (mnemonic : String)
deriving DecidableEq, Repr

/-- cpu_state (R25). -/
inductive CpuState where
  | running | halted | stopped
deriving DecidableEq, Repr

/-- The record of the fault latch (R26): the address of the opcode byte and the byte. -/
structure DecodeError where
  addr : Word
  byte : Byte
deriving DecidableEq, Repr

/-- The flag register F (R17): bits 7 to 4. Bits 3 to 0 are always zero and have no storage (log entry 11). -/
structure Flags where
  z : Bool
  n : Bool
  h : Bool
  c : Bool
deriving DecidableEq, Repr

/-- The five interrupt sources in priority order (spec/60_exceptions.md R179). -/
inductive IntSource where
  | vblank | lcdStatus | timer | serial | joypad
deriving DecidableEq, Repr

/-- The state of the core, of the bus storage and of Execution Control. Plain data. -/
structure State where
  /-- The accumulator (R16). -/
  a : Byte
  b : Byte
  c : Byte
  d : Byte
  e : Byte
  h : Byte
  l : Byte
  /-- F (R17). -/
  f : Flags
  /-- SP (R22). -/
  sp : Word
  /-- PC (R21). -/
  pc : Word
  /-- IME (R23). -/
  ime : Bool
  /-- ei_delay (R24). -/
  eiDelay : Bool
  /-- cpu_state (R25). -/
  cpu : CpuState
  /-- fault (R26); `none` is the spec's None. -/
  fault : Option DecodeError
  /-- IE, all 8 bits stored (R27). -/
  ie : Byte
  /-- IF[4:0] (R28). -/
  ifl : BitVec 5
  /-- div16 (R29). -/
  div16 : Word
  /-- TIMA (R30). -/
  tima : Byte
  /-- TMA (R31). -/
  tma : Byte
  /-- TAC[2:0] (R32). -/
  tac : BitVec 3
  /-- reload_pending (R33). -/
  reloadPending : Nat
  /-- ROM, VRAM, external RAM, WRAM, OAM, plain I/O storage and HRAM, by storage address. -/
  mem : List Host.Cell
  /-- The model's own record of what reached the hooked peripherals (log entry 5). -/
  hookTrace : List HookEvent
  /-- The breakpoint set, in order (R36). -/
  breakpoints : List Word
  /-- cancel_flag (spec/60_exceptions.md R211). -/
  cancelFlag : Bool
  /-- The named parameters (spec/00_scope.md R10), fixed for one machine (log entry 3). -/
  params : Params
deriving DecidableEq, Repr

/-- Power-on of the machine with parameters `p` (spec/70_reset_and_hazards.md R214): the values of R39, no breakpoint,
cancel_flag clear, the ROM all 0x00. -/
def State.powerOn (p : Params) : State where
  a := p.regReset.a
  b := p.regReset.b
  c := p.regReset.c
  d := p.regReset.d
  e := p.regReset.e
  h := p.regReset.h
  l := p.regReset.l
  f := ⟨false, false, false, false⟩
  sp := 0xFFFE
  pc := 0x0100
  ime := false
  eiDelay := false
  cpu := .running
  fault := none
  ie := 0x00
  ifl := 0
  div16 := 0x0000
  tima := 0x00
  tma := 0x00
  tac := 0
  reloadPending := 0
  mem := initialRam p
  hookTrace := []
  breakpoints := []
  cancelFlag := false
  params := p

/-- The machine right after reset: power-on at the spec's default parameters (R10, R39). -/
def State.reset : State := State.powerOn Params.default

end Sys2Proof.Machine
end

