-- ==== Sys2Proof/Machine/Flags.lean ====
section
/-! DEFINITION. Results and flags of the arithmetic, logic, rotate and shift operations, from the exact integer values
before truncation (spec/43_alu8.md, 44_alu16.md, 45_rotate_shift.md, 42_load16_stack.md R112). -/

namespace Sys2Proof.Machine

/-- The low nibble `v[3:0]`. -/
def lowNibble (v : Byte) : Nat := v.toNat % 16

/-- A + v + carry: the truncated sum and its flags (R119, R120). -/
def addByte (a v : Byte) (carry : Bool) : Byte × Flags :=
  let s := a.toNat + v.toNat + carry.toNat
  let r := BitVec.ofNat 8 s
  (r, ⟨decide (r = 0), false, decide (lowNibble a + lowNibble v + carry.toNat > 0xF), decide (s > 0xFF)⟩)

/-- A - v - borrow: the truncated difference and its flags (R121, R122). -/
def subByte (a v : Byte) (borrow : Bool) : Byte × Flags :=
  let r := a - v - BitVec.ofNat 8 borrow.toNat
  (r, ⟨decide (r = 0), true, decide (lowNibble a < lowNibble v + borrow.toNat),
    decide (a.toNat < v.toNat + borrow.toNat)⟩)

/-- A logic operation's result and flags: Z from the result, N and C 0, H as the rule fixes it (R123 to R125). -/
def logicByte (r : Byte) (half : Bool) : Byte × Flags :=
  (r, ⟨decide (r = 0), false, half, false⟩)

/-- The result and flags of each ALU operation, with C before it (R119 to R126). CP's result is SUB's; it is not written. -/
def aluResult (op : AluOp) (a v : Byte) (carry : Bool) : Byte × Flags :=
  match op with
  | .add => addByte a v false
  | .adc => addByte a v carry
  | .sub => subByte a v false
  | .sbc => subByte a v carry
  | .and => logicByte (a &&& v) true
  | .xor => logicByte (a ^^^ v) false
  | .or => logicByte (a ||| v) false
  | .cp => subByte a v false

/-- INC of a byte: C untouched (R127, R128). -/
def incByte (old : Byte) (f : Flags) : Byte × Flags :=
  (old + 1, { f with z := decide (old + 1 = 0), n := false, h := decide (lowNibble old = 0xF) })

/-- DEC of a byte: C untouched (R129, R130). -/
def decByte (old : Byte) (f : Flags) : Byte × Flags :=
  (old - 1, { f with z := decide (old - 1 = 0), n := true, h := decide (lowNibble old = 0x0) })

/-- DAA (R131). Adding 0x60 leaves `a[3:0]`, so the second test reads the original low nibble, as the rule notes. -/
def daaByte (a : Byte) (f : Flags) : Byte × Flags :=
  if f.n then
    let a1 := if f.c then a - 0x60 else a
    let a2 := if f.h then a1 - 0x06 else a1
    (a2, { f with z := decide (a2 = 0), h := false })
  else
    let high := f.c || decide (a.toNat > 0x99)
    let a1 := if high then a + 0x60 else a
    let a2 := if f.h || decide (lowNibble a1 > 0x9) then a1 + 0x06 else a1
    (a2, { f with z := decide (a2 = 0), h := false, c := high })

/-- ADD HL,rr: Z untouched, H from bit 11, C from bit 15 (R135). -/
def addWord (x y : Word) (f : Flags) : Word × Flags :=
  (BitVec.ofNat 16 (x.toNat + y.toNat),
    { f with n := false, h := decide (x.toNat % 0x1000 + y.toNat % 0x1000 > 0xFFF), c := decide (x.toNat + y.toNat > 0xFFFF) })

/-- SP + r8: the sum with the sign-extended byte, H and C from the unsigned addition of the low byte (R112, R138). -/
def addSigned (sp : Word) (e : Byte) : Word × Flags :=
  (sp + sext16 e,
    ⟨false, false, decide (sp.toNat % 16 + lowNibble e > 0xF), decide (sp.toNat % 256 + e.toNat > 0xFF)⟩)

/-- `(v << 1) | c`. -/
def shiftLeftIn (v : Byte) (low : Bool) : Byte := (v <<< 1) ||| BitVec.ofNat 8 low.toNat

/-- `(v >> 1) | (c << 7)`. -/
def shiftRightIn (v : Byte) (high : Bool) : Byte := (v >>> 1) ||| BitVec.ofNat 8 (high.toNat * 0x80)

/-- `result` and `c` of each rotate and shift (R145 to R152); `carry` is F.C before it. -/
def shiftByte (op : ShiftOp) (v : Byte) (carry : Bool) : Byte × Bool :=
  match op with
  | .rlc => (shiftLeftIn v (v.getLsbD 7), v.getLsbD 7)
  | .rrc => (shiftRightIn v (v.getLsbD 0), v.getLsbD 0)
  | .rl => (shiftLeftIn v carry, v.getLsbD 7)
  | .rr => (shiftRightIn v carry, v.getLsbD 0)
  | .sla => (shiftLeftIn v false, v.getLsbD 7)
  | .sra => (shiftRightIn v (v.getLsbD 7), v.getLsbD 0)
  | .swap => ((v <<< 4) ||| (v >>> 4), false)
  | .srl => (shiftRightIn v false, v.getLsbD 0)

/-- A 0xCB rotate or shift: Z from the result, N and H 0, C the bit shifted out (R144). -/
def shiftResult (op : ShiftOp) (v : Byte) (carry : Bool) : Byte × Flags :=
  let r := shiftByte op v carry
  (r.1, ⟨decide (r.1 = 0), false, false, r.2⟩)

/-- A plain accumulator rotate: the same rotation with Z always cleared (R140 to R143). -/
def rotateAResult (op : ShiftOp) (v : Byte) (carry : Bool) : Byte × Flags :=
  let r := shiftByte op v carry
  (r.1, ⟨false, false, false, r.2⟩)

/-- BIT: Z is the complement of the bit, N 0, H 1, C untouched (R153). -/
def bitFlags (bit : Fin 8) (v : Byte) (f : Flags) : Flags :=
  { f with z := !v.getLsbD bit, n := false, h := true }

/-- `v & ~(1 << b)` (R154). -/
def clearBit (bit : Fin 8) (v : Byte) : Byte := v &&& ~~~((1#8) <<< bit.val)

/-- `v | (1 << b)` (R155). -/
def setBit (bit : Fin 8) (v : Byte) : Byte := v ||| ((1#8) <<< bit.val)

end Sys2Proof.Machine
end

