-- ==== Sys2Proof/Machine/Operands.lean ====
section
/-! DEFINITION. The register file and its views (spec/10_state.md R16 to R18) and the conditions (spec/47_control.md R156). -/

namespace Sys2Proof.Machine

/-- F read as a byte: Z·0x80 + N·0x40 + H·0x20 + C·0x10 (R17). -/
def Flags.toByte (f : Flags) : Byte :=
  BitVec.ofNat 8 (f.z.toNat * 0x80 + f.n.toNat * 0x40 + f.h.toNat * 0x20 + f.c.toNat * 0x10)

/-- F written from a byte: bits 3 to 0 are dropped (R17). -/
def Flags.ofByte (v : Byte) : Flags :=
  ⟨v.getLsbD 7, v.getLsbD 6, v.getLsbD 5, v.getLsbD 4⟩

/-- R8[code] as a register (spec/30_encoding.md R72). -/
def State.reg (s : State) : Reg → Byte
  | .b => s.b
  | .c => s.c
  | .d => s.d
  | .e => s.e
  | .h => s.h
  | .l => s.l
  | .a => s.a

/-- `R8[code] <- v`. -/
def State.setReg (s : State) (r : Reg) (v : Byte) : State :=
  match r with
  | .b => { s with b := v }
  | .c => { s with c := v }
  | .d => { s with d := v }
  | .e => { s with e := v }
  | .h => { s with h := v }
  | .l => { s with l := v }
  | .a => { s with a := v }

/-- The view BC (R18). -/
def State.bc (s : State) : Word := joinBytes s.b s.c

/-- The view DE (R18). -/
def State.de (s : State) : Word := joinBytes s.d s.e

/-- The view HL (R18). -/
def State.hl (s : State) : Word := joinBytes s.h s.l

/-- The view AF (R18). -/
def State.af (s : State) : Word := joinBytes s.a s.f.toByte

/-- `HL <- v` (R18). -/
def State.setHL (s : State) (v : Word) : State := { s with h := hiByte v, l := loByte v }

/-- R16[code] (spec/30_encoding.md R72). -/
def State.pair (s : State) : Pair → Word
  | .bc => s.bc
  | .de => s.de
  | .hl => s.hl
  | .sp => s.sp

/-- `R16[code] <- v` (R18). -/
def State.setPair (s : State) (p : Pair) (v : Word) : State :=
  match p with
  | .bc => { s with b := hiByte v, c := loByte v }
  | .de => { s with d := hiByte v, e := loByte v }
  | .hl => s.setHL v
  | .sp => { s with sp := v }

/-- R16S[code] (spec/30_encoding.md R72). -/
def State.stackPair (s : State) : StackPair → Word
  | .bc => s.bc
  | .de => s.de
  | .hl => s.hl
  | .af => s.af

/-- `R16S[code] <- v`; for AF the low nibble of F is forced to 0 (R17, R18). -/
def State.setStackPair (s : State) (p : StackPair) (v : Word) : State :=
  match p with
  | .bc => { s with b := hiByte v, c := loByte v }
  | .de => { s with d := hiByte v, e := loByte v }
  | .hl => s.setHL v
  | .af => { s with a := hiByte v, f := Flags.ofByte (loByte v) }

/-- `Cond(cc)` (spec/47_control.md R156). -/
def State.cond (s : State) : Cond → Bool
  | .nz => !s.f.z
  | .z => s.f.z
  | .nc => !s.f.c
  | .c => s.f.c

end Sys2Proof.Machine
end

