-- ==== Sys2Proof/Machine/Ops.lean ====
section
/-! DEFINITION. The named operations over the bus, the stack and the interrupt controller, and the two ways the core
leaves the instruction stream: taking an interrupt and raising DecodeError. -/

namespace Sys2Proof.Machine

/-! ## The bus (spec/20_memory.md R52, R53) -/

/-- `MemRead(addr, 1)` (R52). It never fails and changes nothing. -/
def memRead (s : State) (addr : Word) : Byte :=
  match busTarget s.params addr with
  | .rom k => Memory.read s.mem k
  | .ram k => Memory.read s.mem k
  | .unmapped => 0xFF
  | .div => hiByte s.div16
  | .tima => s.tima
  | .tma => s.tma
  | .tac => 0xF8 ||| s.tac.zeroExtend 8
  | .iflag => 0xE0 ||| s.ifl.zeroExtend 8
  | .ie => s.ie
  | .hook a => Config.hookRead s.hookTrace a

/-- `MemWrite(addr, 1, v)` (R53). It never fails. -/
def memWrite (s : State) (addr : Word) (v : Byte) : State :=
  match busTarget s.params addr with
  | .rom _ => s
  | .ram k => { s with mem := Memory.write s.mem k v }
  | .unmapped => s
  | .div => { s with div16 := 0 }
  | .tima => { s with tima := v, reloadPending := 0 }
  | .tma => { s with tma := v }
  | .tac => { s with tac := v.truncate 3 }
  | .iflag => { s with ifl := v.truncate 5 }
  | .ie => { s with ie := v }
  | .hook a => { s with hookTrace := s.hookTrace ++ [.write a v] }

/-- The operand R8[code] (spec/30_encoding.md R72): a register, or the byte at HL. -/
def readOperand (o : Operand8) (s : State) : Byte :=
  match o with
  | .reg r => s.reg r
  | .atHL => memRead s s.hl

/-- `R8[code] <- v`: a register write, or a store to the byte at HL. -/
def writeOperand (o : Operand8) (v : Byte) (s : State) : State :=
  match o with
  | .reg r => s.setReg r v
  | .atHL => memWrite s s.hl v

/-! ## The stack (spec/42_load16_stack.md R113, R114) -/

/-- `Push16(v)`: the high byte first, each store after a decrement of SP (R113). -/
def push16 (v : Word) (s : State) : State :=
  let s1 := memWrite { s with sp := s.sp - 1 } (s.sp - 1) (hiByte v)
  memWrite { s1 with sp := s.sp - 2 } (s.sp - 2) (loByte v)

/-- The value `Pop16()` returns: the low byte at SP, the high byte at SP + 1 (R114). -/
def popValue (s : State) : Word := joinBytes (memRead s (s.sp + 1)) (memRead s s.sp)

/-- What `Pop16()` leaves: SP two higher (R114). -/
def dropTwo (s : State) : State := { s with sp := s.sp + 2 }

/-! ## The interrupt controller (spec/60_exceptions.md R179 to R185) -/

/-- The bit of a source in IE and IF (R179). -/
def IntSource.bit : IntSource → Nat
  | .vblank => 0
  | .lcdStatus => 1
  | .timer => 2
  | .serial => 3
  | .joypad => 4

/-- The fixed service-routine address of a source (R179). -/
def IntSource.vector : IntSource → Word
  | .vblank => 0x0040
  | .lcdStatus => 0x0048
  | .timer => 0x0050
  | .serial => 0x0058
  | .joypad => 0x0060

/-- The mask of a source in IF. -/
def IntSource.mask (i : IntSource) : BitVec 5 := (1#5) <<< i.bit

/-- `IE[4:0] & IF[4:0]` (R181). -/
def pendingMask (s : State) : BitVec 5 := s.ie.truncate 5 &&& s.ifl

/-- `pendingAndEnabled()`: the source of the lowest set bit, the highest priority (R181, R182). It does not read IME. -/
def pendingAndEnabled (s : State) : Option IntSource :=
  [IntSource.vblank, .lcdStatus, .timer, .serial, .joypad].find? fun i => (pendingMask s).getLsbD i.bit

/-- `requestInterrupt(source)` (R180). -/
def requestInterrupt (i : IntSource) (s : State) : State := { s with ifl := s.ifl ||| i.mask }

/-- `acknowledge(source)` (R185). -/
def acknowledge (i : IntSource) (s : State) : State := { s with ifl := s.ifl &&& ~~~i.mask }

/-- TAKING AN INTERRUPT (R184), but for the 20 clock cycles it spends, which the engine ticks: IME and ei_delay are
cleared, PC is pushed, PC goes to the vector of the source chosen before the push, the request is acknowledged. -/
def takeInterrupt (i : IntSource) (s : State) : State :=
  let pushed := push16 s.pc { s with ime := false, eiDelay := false }
  acknowledge i { pushed with pc := i.vector }

/-- RETURNING FROM AN INTERRUPT (spec/47_control.md R166): PC is popped and IME is set at once; ei_delay is not changed. -/
def returnFromInterrupt (s : State) : State :=
  { dropTwo s with pc := popValue s, ime := true }

/-- RAISING DecodeError (R176, R177) for the opcode byte at PC: the fault latch, and nothing else. -/
def raiseDecodeError (byte : Byte) (s : State) : State :=
  { s with fault := some ⟨s.pc, byte⟩ }

end Sys2Proof.Machine
end

