-- ==== Sys2Proof/Machine/Alu16.lean ====
section
/-! DEFINITION. 16-bit arithmetic (spec/44_alu16.md R135 to R138). -/

namespace Sys2Proof.Machine

/-- ADD HL,rr (R135). -/
def addToHL (p : Pair) (s : State) : Host.Outcome State Fault Refusal :=
  let r := addWord s.hl (s.pair p) s.f
  .next { s.setHL r.1 with f := r.2 }

/-- INC rr: no flag (R136). -/
def incPair (p : Pair) (s : State) : Host.Outcome State Fault Refusal :=
  .next (s.setPair p (s.pair p + 1))

/-- DEC rr: no flag (R137). -/
def decPair (p : Pair) (s : State) : Host.Outcome State Fault Refusal :=
  .next (s.setPair p (s.pair p - 1))

/-- ADD SP,r8 (R138). -/
def addToSP (e : Byte) (s : State) : Host.Outcome State Fault Refusal :=
  let r := addSigned s.sp e
  .next { s with sp := r.1, f := r.2 }

/-! ## One meaning per instruction -/

/-- INC BC (R136). -/
def execInc_BC (s : State) : Host.Outcome State Fault Refusal :=
  incPair .bc s

/-- ADD HL,BC (R135). -/
def execAdd_HL_BC (s : State) : Host.Outcome State Fault Refusal :=
  addToHL .bc s

/-- DEC BC (R137). -/
def execDec_BC (s : State) : Host.Outcome State Fault Refusal :=
  decPair .bc s

/-- INC DE (R136). -/
def execInc_DE (s : State) : Host.Outcome State Fault Refusal :=
  incPair .de s

/-- ADD HL,DE (R135). -/
def execAdd_HL_DE (s : State) : Host.Outcome State Fault Refusal :=
  addToHL .de s

/-- DEC DE (R137). -/
def execDec_DE (s : State) : Host.Outcome State Fault Refusal :=
  decPair .de s

/-- INC HL (R136). -/
def execInc_HL (s : State) : Host.Outcome State Fault Refusal :=
  incPair .hl s

/-- ADD HL,HL (R135). -/
def execAdd_HL_HL (s : State) : Host.Outcome State Fault Refusal :=
  addToHL .hl s

/-- DEC HL (R137). -/
def execDec_HL (s : State) : Host.Outcome State Fault Refusal :=
  decPair .hl s

/-- INC SP (R136). -/
def execInc_SP (s : State) : Host.Outcome State Fault Refusal :=
  incPair .sp s

/-- ADD HL,SP (R135). -/
def execAdd_HL_SP (s : State) : Host.Outcome State Fault Refusal :=
  addToHL .sp s

/-- DEC SP (R137). -/
def execDec_SP (s : State) : Host.Outcome State Fault Refusal :=
  decPair .sp s

/-- ADD SP,r8 (R138). -/
def execAdd_SP_r8 (r8 : Byte) (s : State) : Host.Outcome State Fault Refusal :=
  addToSP r8 s

end Sys2Proof.Machine
end

