-- ==== Sys2Proof/Machine/Alu8.lean ====
section
/-! DEFINITION. 8-bit arithmetic and logic (spec/43_alu8.md R118 to R134). -/

namespace Sys2Proof.Machine

/-- An ALU operation on A and `v`: F takes all four flags; A takes the result, except for CP (R118 to R126). -/
def aluOn (op : AluOp) (v : Byte) (s : State) : Host.Outcome State Fault Refusal :=
  let r := aluResult op s.a v s.f.c
  .next { s with a := if op = .cp then s.a else r.1, f := r.2 }

/-- INC of R8[y], a register or the byte at HL (R127, R128). -/
def incOperand (o : Operand8) (s : State) : Host.Outcome State Fault Refusal :=
  let r := incByte (readOperand o s) s.f
  .next { writeOperand o r.1 s with f := r.2 }

/-- DEC of R8[y], a register or the byte at HL (R129, R130). -/
def decOperand (o : Operand8) (s : State) : Host.Outcome State Fault Refusal :=
  let r := decByte (readOperand o s) s.f
  .next { writeOperand o r.1 s with f := r.2 }

/-- DAA (R131). -/
def adjustDecimal (s : State) : Host.Outcome State Fault Refusal :=
  let r := daaByte s.a s.f
  .next { s with a := r.1, f := r.2 }

/-- CPL: `A <- A ^ 0xFF`, N and H set (R132). -/
def complementA (s : State) : Host.Outcome State Fault Refusal :=
  .next { s with a := s.a ^^^ 0xFF, f := { s.f with n := true, h := true } }

/-- SCF (R133). -/
def setCarry (s : State) : Host.Outcome State Fault Refusal :=
  .next { s with f := { s.f with n := false, h := false, c := true } }

/-- CCF (R134). -/
def complementCarry (s : State) : Host.Outcome State Fault Refusal :=
  .next { s with f := { s.f with n := false, h := false, c := !s.f.c } }

/-! ## One meaning per instruction -/

/-- INC B (R127). -/
def execInc_B (s : State) : Host.Outcome State Fault Refusal :=
  incOperand (.reg .b) s

/-- DEC B (R129). -/
def execDec_B (s : State) : Host.Outcome State Fault Refusal :=
  decOperand (.reg .b) s

/-- INC C (R127). -/
def execInc_C (s : State) : Host.Outcome State Fault Refusal :=
  incOperand (.reg .c) s

/-- DEC C (R129). -/
def execDec_C (s : State) : Host.Outcome State Fault Refusal :=
  decOperand (.reg .c) s

/-- INC D (R127). -/
def execInc_D (s : State) : Host.Outcome State Fault Refusal :=
  incOperand (.reg .d) s

/-- DEC D (R129). -/
def execDec_D (s : State) : Host.Outcome State Fault Refusal :=
  decOperand (.reg .d) s

/-- INC E (R127). -/
def execInc_E (s : State) : Host.Outcome State Fault Refusal :=
  incOperand (.reg .e) s

/-- DEC E (R129). -/
def execDec_E (s : State) : Host.Outcome State Fault Refusal :=
  decOperand (.reg .e) s

/-- INC H (R127). -/
def execInc_H (s : State) : Host.Outcome State Fault Refusal :=
  incOperand (.reg .h) s

/-- DEC H (R129). -/
def execDec_H (s : State) : Host.Outcome State Fault Refusal :=
  decOperand (.reg .h) s

/-- DAA (R131). -/
def execDaa (s : State) : Host.Outcome State Fault Refusal :=
  adjustDecimal s

/-- INC L (R127). -/
def execInc_L (s : State) : Host.Outcome State Fault Refusal :=
  incOperand (.reg .l) s

/-- DEC L (R129). -/
def execDec_L (s : State) : Host.Outcome State Fault Refusal :=
  decOperand (.reg .l) s

/-- CPL (R132). -/
def execCpl (s : State) : Host.Outcome State Fault Refusal :=
  complementA s

/-- INC (HL) (R128). -/
def execInc_atHL (s : State) : Host.Outcome State Fault Refusal :=
  incOperand .atHL s

/-- DEC (HL) (R130). -/
def execDec_atHL (s : State) : Host.Outcome State Fault Refusal :=
  decOperand .atHL s

/-- SCF (R133). -/
def execScf (s : State) : Host.Outcome State Fault Refusal :=
  setCarry s

/-- INC A (R127). -/
def execInc_A (s : State) : Host.Outcome State Fault Refusal :=
  incOperand (.reg .a) s

/-- DEC A (R129). -/
def execDec_A (s : State) : Host.Outcome State Fault Refusal :=
  decOperand (.reg .a) s

/-- CCF (R134). -/
def execCcf (s : State) : Host.Outcome State Fault Refusal :=
  complementCarry s

/-- ADD A,B (R119). -/
def execAdd_A_B (s : State) : Host.Outcome State Fault Refusal :=
  aluOn .add (readOperand (.reg .b) s) s

/-- ADD A,C (R119). -/
def execAdd_A_C (s : State) : Host.Outcome State Fault Refusal :=
  aluOn .add (readOperand (.reg .c) s) s

/-- ADD A,D (R119). -/
def execAdd_A_D (s : State) : Host.Outcome State Fault Refusal :=
  aluOn .add (readOperand (.reg .d) s) s

/-- ADD A,E (R119). -/
def execAdd_A_E (s : State) : Host.Outcome State Fault Refusal :=
  aluOn .add (readOperand (.reg .e) s) s

/-- ADD A,H (R119). -/
def execAdd_A_H (s : State) : Host.Outcome State Fault Refusal :=
  aluOn .add (readOperand (.reg .h) s) s

/-- ADD A,L (R119). -/
def execAdd_A_L (s : State) : Host.Outcome State Fault Refusal :=
  aluOn .add (readOperand (.reg .l) s) s

/-- ADD A,(HL) (R119). -/
def execAdd_A_atHL (s : State) : Host.Outcome State Fault Refusal :=
  aluOn .add (readOperand .atHL s) s

/-- ADD A,A (R119). -/
def execAdd_A_A (s : State) : Host.Outcome State Fault Refusal :=
  aluOn .add (readOperand (.reg .a) s) s

/-- ADC A,B (R120). -/
def execAdc_A_B (s : State) : Host.Outcome State Fault Refusal :=
  aluOn .adc (readOperand (.reg .b) s) s

/-- ADC A,C (R120). -/
def execAdc_A_C (s : State) : Host.Outcome State Fault Refusal :=
  aluOn .adc (readOperand (.reg .c) s) s

/-- ADC A,D (R120). -/
def execAdc_A_D (s : State) : Host.Outcome State Fault Refusal :=
  aluOn .adc (readOperand (.reg .d) s) s

/-- ADC A,E (R120). -/
def execAdc_A_E (s : State) : Host.Outcome State Fault Refusal :=
  aluOn .adc (readOperand (.reg .e) s) s

/-- ADC A,H (R120). -/
def execAdc_A_H (s : State) : Host.Outcome State Fault Refusal :=
  aluOn .adc (readOperand (.reg .h) s) s

/-- ADC A,L (R120). -/
def execAdc_A_L (s : State) : Host.Outcome State Fault Refusal :=
  aluOn .adc (readOperand (.reg .l) s) s

/-- ADC A,(HL) (R120). -/
def execAdc_A_atHL (s : State) : Host.Outcome State Fault Refusal :=
  aluOn .adc (readOperand .atHL s) s

/-- ADC A,A (R120). -/
def execAdc_A_A (s : State) : Host.Outcome State Fault Refusal :=
  aluOn .adc (readOperand (.reg .a) s) s

/-- SUB B (R121). -/
def execSub_B (s : State) : Host.Outcome State Fault Refusal :=
  aluOn .sub (readOperand (.reg .b) s) s

/-- SUB C (R121). -/
def execSub_C (s : State) : Host.Outcome State Fault Refusal :=
  aluOn .sub (readOperand (.reg .c) s) s

/-- SUB D (R121). -/
def execSub_D (s : State) : Host.Outcome State Fault Refusal :=
  aluOn .sub (readOperand (.reg .d) s) s

/-- SUB E (R121). -/
def execSub_E (s : State) : Host.Outcome State Fault Refusal :=
  aluOn .sub (readOperand (.reg .e) s) s

/-- SUB H (R121). -/
def execSub_H (s : State) : Host.Outcome State Fault Refusal :=
  aluOn .sub (readOperand (.reg .h) s) s

/-- SUB L (R121). -/
def execSub_L (s : State) : Host.Outcome State Fault Refusal :=
  aluOn .sub (readOperand (.reg .l) s) s

/-- SUB (HL) (R121). -/
def execSub_atHL (s : State) : Host.Outcome State Fault Refusal :=
  aluOn .sub (readOperand .atHL s) s

/-- SUB A (R121). -/
def execSub_A (s : State) : Host.Outcome State Fault Refusal :=
  aluOn .sub (readOperand (.reg .a) s) s

/-- SBC A,B (R122). -/
def execSbc_A_B (s : State) : Host.Outcome State Fault Refusal :=
  aluOn .sbc (readOperand (.reg .b) s) s

/-- SBC A,C (R122). -/
def execSbc_A_C (s : State) : Host.Outcome State Fault Refusal :=
  aluOn .sbc (readOperand (.reg .c) s) s

/-- SBC A,D (R122). -/
def execSbc_A_D (s : State) : Host.Outcome State Fault Refusal :=
  aluOn .sbc (readOperand (.reg .d) s) s

/-- SBC A,E (R122). -/
def execSbc_A_E (s : State) : Host.Outcome State Fault Refusal :=
  aluOn .sbc (readOperand (.reg .e) s) s

/-- SBC A,H (R122). -/
def execSbc_A_H (s : State) : Host.Outcome State Fault Refusal :=
  aluOn .sbc (readOperand (.reg .h) s) s

/-- SBC A,L (R122). -/
def execSbc_A_L (s : State) : Host.Outcome State Fault Refusal :=
  aluOn .sbc (readOperand (.reg .l) s) s

/-- SBC A,(HL) (R122). -/
def execSbc_A_atHL (s : State) : Host.Outcome State Fault Refusal :=
  aluOn .sbc (readOperand .atHL s) s

/-- SBC A,A (R122). -/
def execSbc_A_A (s : State) : Host.Outcome State Fault Refusal :=
  aluOn .sbc (readOperand (.reg .a) s) s

/-- AND B (R123). -/
def execAnd_B (s : State) : Host.Outcome State Fault Refusal :=
  aluOn .and (readOperand (.reg .b) s) s

/-- AND C (R123). -/
def execAnd_C (s : State) : Host.Outcome State Fault Refusal :=
  aluOn .and (readOperand (.reg .c) s) s

/-- AND D (R123). -/
def execAnd_D (s : State) : Host.Outcome State Fault Refusal :=
  aluOn .and (readOperand (.reg .d) s) s

/-- AND E (R123). -/
def execAnd_E (s : State) : Host.Outcome State Fault Refusal :=
  aluOn .and (readOperand (.reg .e) s) s

/-- AND H (R123). -/
def execAnd_H (s : State) : Host.Outcome State Fault Refusal :=
  aluOn .and (readOperand (.reg .h) s) s

/-- AND L (R123). -/
def execAnd_L (s : State) : Host.Outcome State Fault Refusal :=
  aluOn .and (readOperand (.reg .l) s) s

/-- AND (HL) (R123). -/
def execAnd_atHL (s : State) : Host.Outcome State Fault Refusal :=
  aluOn .and (readOperand .atHL s) s

/-- AND A (R123). -/
def execAnd_A (s : State) : Host.Outcome State Fault Refusal :=
  aluOn .and (readOperand (.reg .a) s) s

/-- XOR B (R124). -/
def execXor_B (s : State) : Host.Outcome State Fault Refusal :=
  aluOn .xor (readOperand (.reg .b) s) s

/-- XOR C (R124). -/
def execXor_C (s : State) : Host.Outcome State Fault Refusal :=
  aluOn .xor (readOperand (.reg .c) s) s

/-- XOR D (R124). -/
def execXor_D (s : State) : Host.Outcome State Fault Refusal :=
  aluOn .xor (readOperand (.reg .d) s) s

/-- XOR E (R124). -/
def execXor_E (s : State) : Host.Outcome State Fault Refusal :=
  aluOn .xor (readOperand (.reg .e) s) s

/-- XOR H (R124). -/
def execXor_H (s : State) : Host.Outcome State Fault Refusal :=
  aluOn .xor (readOperand (.reg .h) s) s

/-- XOR L (R124). -/
def execXor_L (s : State) : Host.Outcome State Fault Refusal :=
  aluOn .xor (readOperand (.reg .l) s) s

/-- XOR (HL) (R124). -/
def execXor_atHL (s : State) : Host.Outcome State Fault Refusal :=
  aluOn .xor (readOperand .atHL s) s

/-- XOR A (R124). -/
def execXor_A (s : State) : Host.Outcome State Fault Refusal :=
  aluOn .xor (readOperand (.reg .a) s) s

/-- OR B (R125). -/
def execOr_B (s : State) : Host.Outcome State Fault Refusal :=
  aluOn .or (readOperand (.reg .b) s) s

/-- OR C (R125). -/
def execOr_C (s : State) : Host.Outcome State Fault Refusal :=
  aluOn .or (readOperand (.reg .c) s) s

/-- OR D (R125). -/
def execOr_D (s : State) : Host.Outcome State Fault Refusal :=
  aluOn .or (readOperand (.reg .d) s) s

/-- OR E (R125). -/
def execOr_E (s : State) : Host.Outcome State Fault Refusal :=
  aluOn .or (readOperand (.reg .e) s) s

/-- OR H (R125). -/
def execOr_H (s : State) : Host.Outcome State Fault Refusal :=
  aluOn .or (readOperand (.reg .h) s) s

/-- OR L (R125). -/
def execOr_L (s : State) : Host.Outcome State Fault Refusal :=
  aluOn .or (readOperand (.reg .l) s) s

/-- OR (HL) (R125). -/
def execOr_atHL (s : State) : Host.Outcome State Fault Refusal :=
  aluOn .or (readOperand .atHL s) s

/-- OR A (R125). -/
def execOr_A (s : State) : Host.Outcome State Fault Refusal :=
  aluOn .or (readOperand (.reg .a) s) s

/-- CP B (R126). -/
def execCp_B (s : State) : Host.Outcome State Fault Refusal :=
  aluOn .cp (readOperand (.reg .b) s) s

/-- CP C (R126). -/
def execCp_C (s : State) : Host.Outcome State Fault Refusal :=
  aluOn .cp (readOperand (.reg .c) s) s

/-- CP D (R126). -/
def execCp_D (s : State) : Host.Outcome State Fault Refusal :=
  aluOn .cp (readOperand (.reg .d) s) s

/-- CP E (R126). -/
def execCp_E (s : State) : Host.Outcome State Fault Refusal :=
  aluOn .cp (readOperand (.reg .e) s) s

/-- CP H (R126). -/
def execCp_H (s : State) : Host.Outcome State Fault Refusal :=
  aluOn .cp (readOperand (.reg .h) s) s

/-- CP L (R126). -/
def execCp_L (s : State) : Host.Outcome State Fault Refusal :=
  aluOn .cp (readOperand (.reg .l) s) s

/-- CP (HL) (R126). -/
def execCp_atHL (s : State) : Host.Outcome State Fault Refusal :=
  aluOn .cp (readOperand .atHL s) s

/-- CP A (R126). -/
def execCp_A (s : State) : Host.Outcome State Fault Refusal :=
  aluOn .cp (readOperand (.reg .a) s) s

/-- ADD A,d8 (R119). -/
def execAdd_A_d8 (d8 : Byte) (s : State) : Host.Outcome State Fault Refusal :=
  aluOn .add d8 s

/-- ADC A,d8 (R120). -/
def execAdc_A_d8 (d8 : Byte) (s : State) : Host.Outcome State Fault Refusal :=
  aluOn .adc d8 s

/-- SUB d8 (R121). -/
def execSub_d8 (d8 : Byte) (s : State) : Host.Outcome State Fault Refusal :=
  aluOn .sub d8 s

/-- SBC A,d8 (R122). -/
def execSbc_A_d8 (d8 : Byte) (s : State) : Host.Outcome State Fault Refusal :=
  aluOn .sbc d8 s

/-- AND d8 (R123). -/
def execAnd_d8 (d8 : Byte) (s : State) : Host.Outcome State Fault Refusal :=
  aluOn .and d8 s

/-- XOR d8 (R124). -/
def execXor_d8 (d8 : Byte) (s : State) : Host.Outcome State Fault Refusal :=
  aluOn .xor d8 s

/-- OR d8 (R125). -/
def execOr_d8 (d8 : Byte) (s : State) : Host.Outcome State Fault Refusal :=
  aluOn .or d8 s

/-- CP d8 (R126). -/
def execCp_d8 (d8 : Byte) (s : State) : Host.Outcome State Fault Refusal :=
  aluOn .cp d8 s

end Sys2Proof.Machine
end

