-- ==== Sys2Proof/Machine/Control.lean ====
section
/-! DEFINITION. Control transfer (spec/47_control.md R156 to R167). The engine has already moved PC past the instruction
(spec/30_encoding.md R86), so PC here is the address of the next instruction. No flag is written. -/

namespace Sys2Proof.Machine

/-- `PC <- target` (R157, R159, R160). -/
def jumpTo (target : Word) (s : State) : Host.Outcome State Fault Refusal :=
  .next { s with pc := target }

/-- `if Cond(cc): PC <- target` (R158, R161). -/
def jumpIf (cc : Cond) (target : Word) (s : State) : Host.Outcome State Fault Refusal :=
  .next (if s.cond cc then { s with pc := target } else s)

/-- `Push16(PC); PC <- target` (R162, R167). -/
def callTo (target : Word) (s : State) : Host.Outcome State Fault Refusal :=
  .next { push16 s.pc s with pc := target }

/-- The call of R162 where the condition holds, nothing where it fails (R163). -/
def callIf (cc : Cond) (target : Word) (s : State) : Host.Outcome State Fault Refusal :=
  .next (if s.cond cc then { push16 s.pc s with pc := target } else s)

/-- `PC <- Pop16()` (R164). -/
def returnTo (s : State) : Host.Outcome State Fault Refusal :=
  .next { dropTwo s with pc := popValue s }

/-- The return of R164 where the condition holds, nothing where it fails (R165). -/
def returnIf (cc : Cond) (s : State) : Host.Outcome State Fault Refusal :=
  .next (if s.cond cc then { dropTwo s with pc := popValue s } else s)

/-- RETI (R166). -/
def returnEnabling (s : State) : Host.Outcome State Fault Refusal :=
  .next (returnFromInterrupt s)

/-! ## One meaning per instruction -/

/-- JR r8 (R160). -/
def execJr_r8 (r8 : Byte) (s : State) : Host.Outcome State Fault Refusal :=
  jumpTo (s.pc + sext16 r8) s

/-- JR NZ,r8 (R161). -/
def execJr_NZ_r8 (r8 : Byte) (s : State) : Host.Outcome State Fault Refusal :=
  jumpIf .nz (s.pc + sext16 r8) s

/-- JR Z,r8 (R161). -/
def execJr_Z_r8 (r8 : Byte) (s : State) : Host.Outcome State Fault Refusal :=
  jumpIf .z (s.pc + sext16 r8) s

/-- JR NC,r8 (R161). -/
def execJr_NC_r8 (r8 : Byte) (s : State) : Host.Outcome State Fault Refusal :=
  jumpIf .nc (s.pc + sext16 r8) s

/-- JR C,r8 (R161). -/
def execJr_C_r8 (r8 : Byte) (s : State) : Host.Outcome State Fault Refusal :=
  jumpIf .c (s.pc + sext16 r8) s

/-- RET NZ (R165). -/
def execRet_NZ (s : State) : Host.Outcome State Fault Refusal :=
  returnIf .nz s

/-- JP NZ,a16 (R158). -/
def execJp_NZ_a16 (a16 : Word) (s : State) : Host.Outcome State Fault Refusal :=
  jumpIf .nz a16 s

/-- JP a16 (R157). -/
def execJp_a16 (a16 : Word) (s : State) : Host.Outcome State Fault Refusal :=
  jumpTo a16 s

/-- CALL NZ,a16 (R163). -/
def execCall_NZ_a16 (a16 : Word) (s : State) : Host.Outcome State Fault Refusal :=
  callIf .nz a16 s

/-- RST 00H (R167). -/
def execRst_00H (s : State) : Host.Outcome State Fault Refusal :=
  callTo 0x0000 s

/-- RET Z (R165). -/
def execRet_Z (s : State) : Host.Outcome State Fault Refusal :=
  returnIf .z s

/-- RET (R164). -/
def execRet (s : State) : Host.Outcome State Fault Refusal :=
  returnTo s

/-- JP Z,a16 (R158). -/
def execJp_Z_a16 (a16 : Word) (s : State) : Host.Outcome State Fault Refusal :=
  jumpIf .z a16 s

/-- CALL Z,a16 (R163). -/
def execCall_Z_a16 (a16 : Word) (s : State) : Host.Outcome State Fault Refusal :=
  callIf .z a16 s

/-- CALL a16 (R162). -/
def execCall_a16 (a16 : Word) (s : State) : Host.Outcome State Fault Refusal :=
  callTo a16 s

/-- RST 08H (R167). -/
def execRst_08H (s : State) : Host.Outcome State Fault Refusal :=
  callTo 0x0008 s

/-- RET NC (R165). -/
def execRet_NC (s : State) : Host.Outcome State Fault Refusal :=
  returnIf .nc s

/-- JP NC,a16 (R158). -/
def execJp_NC_a16 (a16 : Word) (s : State) : Host.Outcome State Fault Refusal :=
  jumpIf .nc a16 s

/-- CALL NC,a16 (R163). -/
def execCall_NC_a16 (a16 : Word) (s : State) : Host.Outcome State Fault Refusal :=
  callIf .nc a16 s

/-- RST 10H (R167). -/
def execRst_10H (s : State) : Host.Outcome State Fault Refusal :=
  callTo 0x0010 s

/-- RET C (R165). -/
def execRet_C (s : State) : Host.Outcome State Fault Refusal :=
  returnIf .c s

/-- RETI (R166). -/
def execReti (s : State) : Host.Outcome State Fault Refusal :=
  returnEnabling s

/-- JP C,a16 (R158). -/
def execJp_C_a16 (a16 : Word) (s : State) : Host.Outcome State Fault Refusal :=
  jumpIf .c a16 s

/-- CALL C,a16 (R163). -/
def execCall_C_a16 (a16 : Word) (s : State) : Host.Outcome State Fault Refusal :=
  callIf .c a16 s

/-- RST 18H (R167). -/
def execRst_18H (s : State) : Host.Outcome State Fault Refusal :=
  callTo 0x0018 s

/-- RST 20H (R167). -/
def execRst_20H (s : State) : Host.Outcome State Fault Refusal :=
  callTo 0x0020 s

/-- JP HL (R159). -/
def execJp_HL (s : State) : Host.Outcome State Fault Refusal :=
  jumpTo s.hl s

/-- RST 28H (R167). -/
def execRst_28H (s : State) : Host.Outcome State Fault Refusal :=
  callTo 0x0028 s

/-- RST 30H (R167). -/
def execRst_30H (s : State) : Host.Outcome State Fault Refusal :=
  callTo 0x0030 s

/-- RST 38H (R167). -/
def execRst_38H (s : State) : Host.Outcome State Fault Refusal :=
  callTo 0x0038 s

end Sys2Proof.Machine
end

