-- ==== Sys2Proof/Machine/Load16.lean ====
section
/-! DEFINITION. 16-bit loads and the stack instructions (spec/42_load16_stack.md R109 to R117). -/

namespace Sys2Proof.Machine

/-- `R16[p] <- d16` (R109). -/
def ldPairImm (p : Pair) (v : Word) (s : State) : Host.Outcome State Fault Refusal :=
  .next (s.setPair p v)

/-- SP to memory, low byte at the lower address (R110). -/
def storeSP (addr : Word) (s : State) : Host.Outcome State Fault Refusal :=
  .next (memWrite (memWrite s addr (loByte s.sp)) (addr + 1) (hiByte s.sp))

/-- `SP <- HL` (R111). -/
def ldSPHL (s : State) : Host.Outcome State Fault Refusal :=
  .next { s with sp := s.hl }

/-- HL takes SP plus the signed byte; H and C from the low-byte addition (R112). -/
def ldHLSPOffset (e : Byte) (s : State) : Host.Outcome State Fault Refusal :=
  let r := addSigned s.sp e
  .next { s.setHL r.1 with f := r.2 }

/-- `Push16(R16S[p])` (R115). -/
def pushPair (p : StackPair) (s : State) : Host.Outcome State Fault Refusal :=
  .next (push16 (s.stackPair p) s)

/-- `R16S[p] <- Pop16()` (R116, R117). -/
def popPair (p : StackPair) (s : State) : Host.Outcome State Fault Refusal :=
  .next ((dropTwo s).setStackPair p (popValue s))

/-! ## One meaning per instruction -/

/-- LD BC,d16 (R109). -/
def execLd_BC_d16 (d16 : Word) (s : State) : Host.Outcome State Fault Refusal :=
  ldPairImm .bc d16 s

/-- LD (a16),SP (R110). -/
def execLd_atA16_SP (a16 : Word) (s : State) : Host.Outcome State Fault Refusal :=
  storeSP a16 s

/-- LD DE,d16 (R109). -/
def execLd_DE_d16 (d16 : Word) (s : State) : Host.Outcome State Fault Refusal :=
  ldPairImm .de d16 s

/-- LD HL,d16 (R109). -/
def execLd_HL_d16 (d16 : Word) (s : State) : Host.Outcome State Fault Refusal :=
  ldPairImm .hl d16 s

/-- LD SP,d16 (R109). -/
def execLd_SP_d16 (d16 : Word) (s : State) : Host.Outcome State Fault Refusal :=
  ldPairImm .sp d16 s

/-- POP BC (R116). -/
def execPop_BC (s : State) : Host.Outcome State Fault Refusal :=
  popPair .bc s

/-- PUSH BC (R115). -/
def execPush_BC (s : State) : Host.Outcome State Fault Refusal :=
  pushPair .bc s

/-- POP DE (R116). -/
def execPop_DE (s : State) : Host.Outcome State Fault Refusal :=
  popPair .de s

/-- PUSH DE (R115). -/
def execPush_DE (s : State) : Host.Outcome State Fault Refusal :=
  pushPair .de s

/-- POP HL (R116). -/
def execPop_HL (s : State) : Host.Outcome State Fault Refusal :=
  popPair .hl s

/-- PUSH HL (R115). -/
def execPush_HL (s : State) : Host.Outcome State Fault Refusal :=
  pushPair .hl s

/-- POP AF (R117). -/
def execPop_AF (s : State) : Host.Outcome State Fault Refusal :=
  popPair .af s

/-- PUSH AF (R115). -/
def execPush_AF (s : State) : Host.Outcome State Fault Refusal :=
  pushPair .af s

/-- LD HL,SP+r8 (R112). -/
def execLd_HL_SPr8 (r8 : Byte) (s : State) : Host.Outcome State Fault Refusal :=
  ldHLSPOffset r8 s

/-- LD SP,HL (R111). -/
def execLd_SP_HL (s : State) : Host.Outcome State Fault Refusal :=
  ldSPHL s

end Sys2Proof.Machine
end

