-- ==== Sys2Proof/Machine/Load8.lean ====
section
/-! DEFINITION. 8-bit loads and stores (spec/41_load8.md R90 to R108). No flag is written. -/

namespace Sys2Proof.Machine

/-- `R8[y] <- R8[z]` (R90). -/
def ldRegReg (dst src : Reg) (s : State) : Host.Outcome State Fault Refusal :=
  .next (s.setReg dst (s.reg src))

/-- `R8[y] <- d8` (R91). -/
def ldRegImm (dst : Reg) (v : Byte) (s : State) : Host.Outcome State Fault Refusal :=
  .next (s.setReg dst v)

/-- `R8[y] <- MemRead(HL, 1)`: the address is the old HL (R92). -/
def ldRegAtHL (dst : Reg) (s : State) : Host.Outcome State Fault Refusal :=
  .next (s.setReg dst (memRead s s.hl))

/-- `MemWrite(HL, 1, R8[z])` (R93). -/
def ldAtHLReg (src : Reg) (s : State) : Host.Outcome State Fault Refusal :=
  .next (memWrite s s.hl (s.reg src))

/-- `MemWrite(HL, 1, d8)` (R94). -/
def ldAtHLImm (v : Byte) (s : State) : Host.Outcome State Fault Refusal :=
  .next (memWrite s s.hl v)

/-- `A <- MemRead(addr, 1)` (R95, R96, R99, R101, R103). -/
def loadA (addr : Word) (s : State) : Host.Outcome State Fault Refusal :=
  .next { s with a := memRead s addr }

/-- `MemWrite(addr, 1, A)` (R97, R98, R100, R102, R104). -/
def storeA (addr : Word) (s : State) : Host.Outcome State Fault Refusal :=
  .next (memWrite s addr s.a)

/-- `A <- MemRead(HL, 1)`, then HL moves by `step` (R105, R106). -/
def loadAStep (step : Word) (s : State) : Host.Outcome State Fault Refusal :=
  .next ({ s with a := memRead s s.hl }.setHL (s.hl + step))

/-- `MemWrite(HL, 1, A)`, then HL moves by `step` (R107, R108). -/
def storeAStep (step : Word) (s : State) : Host.Outcome State Fault Refusal :=
  .next ((memWrite s s.hl s.a).setHL (s.hl + step))

/-! ## One meaning per instruction -/

/-- LD (BC),A (R97). -/
def execLd_atBC_A (s : State) : Host.Outcome State Fault Refusal :=
  storeA s.bc s

/-- LD B,d8 (R91). -/
def execLd_B_d8 (d8 : Byte) (s : State) : Host.Outcome State Fault Refusal :=
  ldRegImm .b d8 s

/-- LD A,(BC) (R95). -/
def execLd_A_atBC (s : State) : Host.Outcome State Fault Refusal :=
  loadA s.bc s

/-- LD C,d8 (R91). -/
def execLd_C_d8 (d8 : Byte) (s : State) : Host.Outcome State Fault Refusal :=
  ldRegImm .c d8 s

/-- LD (DE),A (R98). -/
def execLd_atDE_A (s : State) : Host.Outcome State Fault Refusal :=
  storeA s.de s

/-- LD D,d8 (R91). -/
def execLd_D_d8 (d8 : Byte) (s : State) : Host.Outcome State Fault Refusal :=
  ldRegImm .d d8 s

/-- LD A,(DE) (R96). -/
def execLd_A_atDE (s : State) : Host.Outcome State Fault Refusal :=
  loadA s.de s

/-- LD E,d8 (R91). -/
def execLd_E_d8 (d8 : Byte) (s : State) : Host.Outcome State Fault Refusal :=
  ldRegImm .e d8 s

/-- LD (HL+),A (R107). -/
def execLd_atHLI_A (s : State) : Host.Outcome State Fault Refusal :=
  storeAStep 1 s

/-- LD H,d8 (R91). -/
def execLd_H_d8 (d8 : Byte) (s : State) : Host.Outcome State Fault Refusal :=
  ldRegImm .h d8 s

/-- LD A,(HL+) (R105). -/
def execLd_A_atHLI (s : State) : Host.Outcome State Fault Refusal :=
  loadAStep 1 s

/-- LD L,d8 (R91). -/
def execLd_L_d8 (d8 : Byte) (s : State) : Host.Outcome State Fault Refusal :=
  ldRegImm .l d8 s

/-- LD (HL-),A (R108). -/
def execLd_atHLD_A (s : State) : Host.Outcome State Fault Refusal :=
  storeAStep (-1) s

/-- LD (HL),d8 (R94). -/
def execLd_atHL_d8 (d8 : Byte) (s : State) : Host.Outcome State Fault Refusal :=
  ldAtHLImm d8 s

/-- LD A,(HL-) (R106). -/
def execLd_A_atHLD (s : State) : Host.Outcome State Fault Refusal :=
  loadAStep (-1) s

/-- LD A,d8 (R91). -/
def execLd_A_d8 (d8 : Byte) (s : State) : Host.Outcome State Fault Refusal :=
  ldRegImm .a d8 s

/-- LD B,B (R90). -/
def execLd_B_B (s : State) : Host.Outcome State Fault Refusal :=
  ldRegReg .b .b s

/-- LD B,C (R90). -/
def execLd_B_C (s : State) : Host.Outcome State Fault Refusal :=
  ldRegReg .b .c s

/-- LD B,D (R90). -/
def execLd_B_D (s : State) : Host.Outcome State Fault Refusal :=
  ldRegReg .b .d s

/-- LD B,E (R90). -/
def execLd_B_E (s : State) : Host.Outcome State Fault Refusal :=
  ldRegReg .b .e s

/-- LD B,H (R90). -/
def execLd_B_H (s : State) : Host.Outcome State Fault Refusal :=
  ldRegReg .b .h s

/-- LD B,L (R90). -/
def execLd_B_L (s : State) : Host.Outcome State Fault Refusal :=
  ldRegReg .b .l s

/-- LD B,(HL) (R92). -/
def execLd_B_atHL (s : State) : Host.Outcome State Fault Refusal :=
  ldRegAtHL .b s

/-- LD B,A (R90). -/
def execLd_B_A (s : State) : Host.Outcome State Fault Refusal :=
  ldRegReg .b .a s

/-- LD C,B (R90). -/
def execLd_C_B (s : State) : Host.Outcome State Fault Refusal :=
  ldRegReg .c .b s

/-- LD C,C (R90). -/
def execLd_C_C (s : State) : Host.Outcome State Fault Refusal :=
  ldRegReg .c .c s

/-- LD C,D (R90). -/
def execLd_C_D (s : State) : Host.Outcome State Fault Refusal :=
  ldRegReg .c .d s

/-- LD C,E (R90). -/
def execLd_C_E (s : State) : Host.Outcome State Fault Refusal :=
  ldRegReg .c .e s

/-- LD C,H (R90). -/
def execLd_C_H (s : State) : Host.Outcome State Fault Refusal :=
  ldRegReg .c .h s

/-- LD C,L (R90). -/
def execLd_C_L (s : State) : Host.Outcome State Fault Refusal :=
  ldRegReg .c .l s

/-- LD C,(HL) (R92). -/
def execLd_C_atHL (s : State) : Host.Outcome State Fault Refusal :=
  ldRegAtHL .c s

/-- LD C,A (R90). -/
def execLd_C_A (s : State) : Host.Outcome State Fault Refusal :=
  ldRegReg .c .a s

/-- LD D,B (R90). -/
def execLd_D_B (s : State) : Host.Outcome State Fault Refusal :=
  ldRegReg .d .b s

/-- LD D,C (R90). -/
def execLd_D_C (s : State) : Host.Outcome State Fault Refusal :=
  ldRegReg .d .c s

/-- LD D,D (R90). -/
def execLd_D_D (s : State) : Host.Outcome State Fault Refusal :=
  ldRegReg .d .d s

/-- LD D,E (R90). -/
def execLd_D_E (s : State) : Host.Outcome State Fault Refusal :=
  ldRegReg .d .e s

/-- LD D,H (R90). -/
def execLd_D_H (s : State) : Host.Outcome State Fault Refusal :=
  ldRegReg .d .h s

/-- LD D,L (R90). -/
def execLd_D_L (s : State) : Host.Outcome State Fault Refusal :=
  ldRegReg .d .l s

/-- LD D,(HL) (R92). -/
def execLd_D_atHL (s : State) : Host.Outcome State Fault Refusal :=
  ldRegAtHL .d s

/-- LD D,A (R90). -/
def execLd_D_A (s : State) : Host.Outcome State Fault Refusal :=
  ldRegReg .d .a s

/-- LD E,B (R90). -/
def execLd_E_B (s : State) : Host.Outcome State Fault Refusal :=
  ldRegReg .e .b s

/-- LD E,C (R90). -/
def execLd_E_C (s : State) : Host.Outcome State Fault Refusal :=
  ldRegReg .e .c s

/-- LD E,D (R90). -/
def execLd_E_D (s : State) : Host.Outcome State Fault Refusal :=
  ldRegReg .e .d s

/-- LD E,E (R90). -/
def execLd_E_E (s : State) : Host.Outcome State Fault Refusal :=
  ldRegReg .e .e s

/-- LD E,H (R90). -/
def execLd_E_H (s : State) : Host.Outcome State Fault Refusal :=
  ldRegReg .e .h s

/-- LD E,L (R90). -/
def execLd_E_L (s : State) : Host.Outcome State Fault Refusal :=
  ldRegReg .e .l s

/-- LD E,(HL) (R92). -/
def execLd_E_atHL (s : State) : Host.Outcome State Fault Refusal :=
  ldRegAtHL .e s

/-- LD E,A (R90). -/
def execLd_E_A (s : State) : Host.Outcome State Fault Refusal :=
  ldRegReg .e .a s

/-- LD H,B (R90). -/
def execLd_H_B (s : State) : Host.Outcome State Fault Refusal :=
  ldRegReg .h .b s

/-- LD H,C (R90). -/
def execLd_H_C (s : State) : Host.Outcome State Fault Refusal :=
  ldRegReg .h .c s

/-- LD H,D (R90). -/
def execLd_H_D (s : State) : Host.Outcome State Fault Refusal :=
  ldRegReg .h .d s

/-- LD H,E (R90). -/
def execLd_H_E (s : State) : Host.Outcome State Fault Refusal :=
  ldRegReg .h .e s

/-- LD H,H (R90). -/
def execLd_H_H (s : State) : Host.Outcome State Fault Refusal :=
  ldRegReg .h .h s

/-- LD H,L (R90). -/
def execLd_H_L (s : State) : Host.Outcome State Fault Refusal :=
  ldRegReg .h .l s

/-- LD H,(HL) (R92). -/
def execLd_H_atHL (s : State) : Host.Outcome State Fault Refusal :=
  ldRegAtHL .h s

/-- LD H,A (R90). -/
def execLd_H_A (s : State) : Host.Outcome State Fault Refusal :=
  ldRegReg .h .a s

/-- LD L,B (R90). -/
def execLd_L_B (s : State) : Host.Outcome State Fault Refusal :=
  ldRegReg .l .b s

/-- LD L,C (R90). -/
def execLd_L_C (s : State) : Host.Outcome State Fault Refusal :=
  ldRegReg .l .c s

/-- LD L,D (R90). -/
def execLd_L_D (s : State) : Host.Outcome State Fault Refusal :=
  ldRegReg .l .d s

/-- LD L,E (R90). -/
def execLd_L_E (s : State) : Host.Outcome State Fault Refusal :=
  ldRegReg .l .e s

/-- LD L,H (R90). -/
def execLd_L_H (s : State) : Host.Outcome State Fault Refusal :=
  ldRegReg .l .h s

/-- LD L,L (R90). -/
def execLd_L_L (s : State) : Host.Outcome State Fault Refusal :=
  ldRegReg .l .l s

/-- LD L,(HL) (R92). -/
def execLd_L_atHL (s : State) : Host.Outcome State Fault Refusal :=
  ldRegAtHL .l s

/-- LD L,A (R90). -/
def execLd_L_A (s : State) : Host.Outcome State Fault Refusal :=
  ldRegReg .l .a s

/-- LD (HL),B (R93). -/
def execLd_atHL_B (s : State) : Host.Outcome State Fault Refusal :=
  ldAtHLReg .b s

/-- LD (HL),C (R93). -/
def execLd_atHL_C (s : State) : Host.Outcome State Fault Refusal :=
  ldAtHLReg .c s

/-- LD (HL),D (R93). -/
def execLd_atHL_D (s : State) : Host.Outcome State Fault Refusal :=
  ldAtHLReg .d s

/-- LD (HL),E (R93). -/
def execLd_atHL_E (s : State) : Host.Outcome State Fault Refusal :=
  ldAtHLReg .e s

/-- LD (HL),H (R93). -/
def execLd_atHL_H (s : State) : Host.Outcome State Fault Refusal :=
  ldAtHLReg .h s

/-- LD (HL),L (R93). -/
def execLd_atHL_L (s : State) : Host.Outcome State Fault Refusal :=
  ldAtHLReg .l s

/-- LD (HL),A (R93). -/
def execLd_atHL_A (s : State) : Host.Outcome State Fault Refusal :=
  ldAtHLReg .a s

/-- LD A,B (R90). -/
def execLd_A_B (s : State) : Host.Outcome State Fault Refusal :=
  ldRegReg .a .b s

/-- LD A,C (R90). -/
def execLd_A_C (s : State) : Host.Outcome State Fault Refusal :=
  ldRegReg .a .c s

/-- LD A,D (R90). -/
def execLd_A_D (s : State) : Host.Outcome State Fault Refusal :=
  ldRegReg .a .d s

/-- LD A,E (R90). -/
def execLd_A_E (s : State) : Host.Outcome State Fault Refusal :=
  ldRegReg .a .e s

/-- LD A,H (R90). -/
def execLd_A_H (s : State) : Host.Outcome State Fault Refusal :=
  ldRegReg .a .h s

/-- LD A,L (R90). -/
def execLd_A_L (s : State) : Host.Outcome State Fault Refusal :=
  ldRegReg .a .l s

/-- LD A,(HL) (R92). -/
def execLd_A_atHL (s : State) : Host.Outcome State Fault Refusal :=
  ldRegAtHL .a s

/-- LD A,A (R90). -/
def execLd_A_A (s : State) : Host.Outcome State Fault Refusal :=
  ldRegReg .a .a s

/-- LDH (a8),A (R102). -/
def execLdh_atA8_A (a8 : Byte) (s : State) : Host.Outcome State Fault Refusal :=
  storeA (highPage a8) s

/-- LD (C),A (R104). -/
def execLd_atC_A (s : State) : Host.Outcome State Fault Refusal :=
  storeA (highPage s.c) s

/-- LD (a16),A (R100). -/
def execLd_atA16_A (a16 : Word) (s : State) : Host.Outcome State Fault Refusal :=
  storeA a16 s

/-- LDH A,(a8) (R101). -/
def execLdh_A_atA8 (a8 : Byte) (s : State) : Host.Outcome State Fault Refusal :=
  loadA (highPage a8) s

/-- LD A,(C) (R103). -/
def execLd_A_atC (s : State) : Host.Outcome State Fault Refusal :=
  loadA (highPage s.c) s

/-- LD A,(a16) (R99). -/
def execLd_A_atA16 (a16 : Word) (s : State) : Host.Outcome State Fault Refusal :=
  loadA a16 s

end Sys2Proof.Machine
end

