-- ==== Sys2Proof/Machine/RotateShift.lean ====
section
/-! DEFINITION. Rotates and shifts (spec/45_rotate_shift.md R140 to R152). -/

namespace Sys2Proof.Machine

/-- RLCA, RRCA, RLA, RRA: the rotation of A with Z always cleared (R140 to R143). -/
def rotateA (op : ShiftOp) (s : State) : Host.Outcome State Fault Refusal :=
  let r := rotateAResult op s.a s.f.c
  .next { s with a := r.1, f := r.2 }

/-- A 0xCB rotate or shift of R8[z], a register or the byte at HL (R144 to R152). -/
def shiftOperand (op : ShiftOp) (o : Operand8) (s : State) : Host.Outcome State Fault Refusal :=
  let r := shiftResult op (readOperand o s) s.f.c
  .next { writeOperand o r.1 s with f := r.2 }

/-! ## One meaning per instruction -/

/-- RLCA (R140). -/
def execRlca (s : State) : Host.Outcome State Fault Refusal :=
  rotateA .rlc s

/-- RRCA (R141). -/
def execRrca (s : State) : Host.Outcome State Fault Refusal :=
  rotateA .rrc s

/-- RLA (R142). -/
def execRla (s : State) : Host.Outcome State Fault Refusal :=
  rotateA .rl s

/-- RRA (R143). -/
def execRra (s : State) : Host.Outcome State Fault Refusal :=
  rotateA .rr s

/-- RLC B (R145). -/
def execRlc_B (s : State) : Host.Outcome State Fault Refusal :=
  shiftOperand .rlc (.reg .b) s

/-- RLC C (R145). -/
def execRlc_C (s : State) : Host.Outcome State Fault Refusal :=
  shiftOperand .rlc (.reg .c) s

/-- RLC D (R145). -/
def execRlc_D (s : State) : Host.Outcome State Fault Refusal :=
  shiftOperand .rlc (.reg .d) s

/-- RLC E (R145). -/
def execRlc_E (s : State) : Host.Outcome State Fault Refusal :=
  shiftOperand .rlc (.reg .e) s

/-- RLC H (R145). -/
def execRlc_H (s : State) : Host.Outcome State Fault Refusal :=
  shiftOperand .rlc (.reg .h) s

/-- RLC L (R145). -/
def execRlc_L (s : State) : Host.Outcome State Fault Refusal :=
  shiftOperand .rlc (.reg .l) s

/-- RLC (HL) (R145). -/
def execRlc_atHL (s : State) : Host.Outcome State Fault Refusal :=
  shiftOperand .rlc .atHL s

/-- RLC A (R145). -/
def execRlc_A (s : State) : Host.Outcome State Fault Refusal :=
  shiftOperand .rlc (.reg .a) s

/-- RRC B (R146). -/
def execRrc_B (s : State) : Host.Outcome State Fault Refusal :=
  shiftOperand .rrc (.reg .b) s

/-- RRC C (R146). -/
def execRrc_C (s : State) : Host.Outcome State Fault Refusal :=
  shiftOperand .rrc (.reg .c) s

/-- RRC D (R146). -/
def execRrc_D (s : State) : Host.Outcome State Fault Refusal :=
  shiftOperand .rrc (.reg .d) s

/-- RRC E (R146). -/
def execRrc_E (s : State) : Host.Outcome State Fault Refusal :=
  shiftOperand .rrc (.reg .e) s

/-- RRC H (R146). -/
def execRrc_H (s : State) : Host.Outcome State Fault Refusal :=
  shiftOperand .rrc (.reg .h) s

/-- RRC L (R146). -/
def execRrc_L (s : State) : Host.Outcome State Fault Refusal :=
  shiftOperand .rrc (.reg .l) s

/-- RRC (HL) (R146). -/
def execRrc_atHL (s : State) : Host.Outcome State Fault Refusal :=
  shiftOperand .rrc .atHL s

/-- RRC A (R146). -/
def execRrc_A (s : State) : Host.Outcome State Fault Refusal :=
  shiftOperand .rrc (.reg .a) s

/-- RL B (R147). -/
def execRl_B (s : State) : Host.Outcome State Fault Refusal :=
  shiftOperand .rl (.reg .b) s

/-- RL C (R147). -/
def execRl_C (s : State) : Host.Outcome State Fault Refusal :=
  shiftOperand .rl (.reg .c) s

/-- RL D (R147). -/
def execRl_D (s : State) : Host.Outcome State Fault Refusal :=
  shiftOperand .rl (.reg .d) s

/-- RL E (R147). -/
def execRl_E (s : State) : Host.Outcome State Fault Refusal :=
  shiftOperand .rl (.reg .e) s

/-- RL H (R147). -/
def execRl_H (s : State) : Host.Outcome State Fault Refusal :=
  shiftOperand .rl (.reg .h) s

/-- RL L (R147). -/
def execRl_L (s : State) : Host.Outcome State Fault Refusal :=
  shiftOperand .rl (.reg .l) s

/-- RL (HL) (R147). -/
def execRl_atHL (s : State) : Host.Outcome State Fault Refusal :=
  shiftOperand .rl .atHL s

/-- RL A (R147). -/
def execRl_A (s : State) : Host.Outcome State Fault Refusal :=
  shiftOperand .rl (.reg .a) s

/-- RR B (R148). -/
def execRr_B (s : State) : Host.Outcome State Fault Refusal :=
  shiftOperand .rr (.reg .b) s

/-- RR C (R148). -/
def execRr_C (s : State) : Host.Outcome State Fault Refusal :=
  shiftOperand .rr (.reg .c) s

/-- RR D (R148). -/
def execRr_D (s : State) : Host.Outcome State Fault Refusal :=
  shiftOperand .rr (.reg .d) s

/-- RR E (R148). -/
def execRr_E (s : State) : Host.Outcome State Fault Refusal :=
  shiftOperand .rr (.reg .e) s

/-- RR H (R148). -/
def execRr_H (s : State) : Host.Outcome State Fault Refusal :=
  shiftOperand .rr (.reg .h) s

/-- RR L (R148). -/
def execRr_L (s : State) : Host.Outcome State Fault Refusal :=
  shiftOperand .rr (.reg .l) s

/-- RR (HL) (R148). -/
def execRr_atHL (s : State) : Host.Outcome State Fault Refusal :=
  shiftOperand .rr .atHL s

/-- RR A (R148). -/
def execRr_A (s : State) : Host.Outcome State Fault Refusal :=
  shiftOperand .rr (.reg .a) s

/-- SLA B (R149). -/
def execSla_B (s : State) : Host.Outcome State Fault Refusal :=
  shiftOperand .sla (.reg .b) s

/-- SLA C (R149). -/
def execSla_C (s : State) : Host.Outcome State Fault Refusal :=
  shiftOperand .sla (.reg .c) s

/-- SLA D (R149). -/
def execSla_D (s : State) : Host.Outcome State Fault Refusal :=
  shiftOperand .sla (.reg .d) s

/-- SLA E (R149). -/
def execSla_E (s : State) : Host.Outcome State Fault Refusal :=
  shiftOperand .sla (.reg .e) s

/-- SLA H (R149). -/
def execSla_H (s : State) : Host.Outcome State Fault Refusal :=
  shiftOperand .sla (.reg .h) s

/-- SLA L (R149). -/
def execSla_L (s : State) : Host.Outcome State Fault Refusal :=
  shiftOperand .sla (.reg .l) s

/-- SLA (HL) (R149). -/
def execSla_atHL (s : State) : Host.Outcome State Fault Refusal :=
  shiftOperand .sla .atHL s

/-- SLA A (R149). -/
def execSla_A (s : State) : Host.Outcome State Fault Refusal :=
  shiftOperand .sla (.reg .a) s

/-- SRA B (R150). -/
def execSra_B (s : State) : Host.Outcome State Fault Refusal :=
  shiftOperand .sra (.reg .b) s

/-- SRA C (R150). -/
def execSra_C (s : State) : Host.Outcome State Fault Refusal :=
  shiftOperand .sra (.reg .c) s

/-- SRA D (R150). -/
def execSra_D (s : State) : Host.Outcome State Fault Refusal :=
  shiftOperand .sra (.reg .d) s

/-- SRA E (R150). -/
def execSra_E (s : State) : Host.Outcome State Fault Refusal :=
  shiftOperand .sra (.reg .e) s

/-- SRA H (R150). -/
def execSra_H (s : State) : Host.Outcome State Fault Refusal :=
  shiftOperand .sra (.reg .h) s

/-- SRA L (R150). -/
def execSra_L (s : State) : Host.Outcome State Fault Refusal :=
  shiftOperand .sra (.reg .l) s

/-- SRA (HL) (R150). -/
def execSra_atHL (s : State) : Host.Outcome State Fault Refusal :=
  shiftOperand .sra .atHL s

/-- SRA A (R150). -/
def execSra_A (s : State) : Host.Outcome State Fault Refusal :=
  shiftOperand .sra (.reg .a) s

/-- SWAP B (R151). -/
def execSwap_B (s : State) : Host.Outcome State Fault Refusal :=
  shiftOperand .swap (.reg .b) s

/-- SWAP C (R151). -/
def execSwap_C (s : State) : Host.Outcome State Fault Refusal :=
  shiftOperand .swap (.reg .c) s

/-- SWAP D (R151). -/
def execSwap_D (s : State) : Host.Outcome State Fault Refusal :=
  shiftOperand .swap (.reg .d) s

/-- SWAP E (R151). -/
def execSwap_E (s : State) : Host.Outcome State Fault Refusal :=
  shiftOperand .swap (.reg .e) s

/-- SWAP H (R151). -/
def execSwap_H (s : State) : Host.Outcome State Fault Refusal :=
  shiftOperand .swap (.reg .h) s

/-- SWAP L (R151). -/
def execSwap_L (s : State) : Host.Outcome State Fault Refusal :=
  shiftOperand .swap (.reg .l) s

/-- SWAP (HL) (R151). -/
def execSwap_atHL (s : State) : Host.Outcome State Fault Refusal :=
  shiftOperand .swap .atHL s

/-- SWAP A (R151). -/
def execSwap_A (s : State) : Host.Outcome State Fault Refusal :=
  shiftOperand .swap (.reg .a) s

/-- SRL B (R152). -/
def execSrl_B (s : State) : Host.Outcome State Fault Refusal :=
  shiftOperand .srl (.reg .b) s

/-- SRL C (R152). -/
def execSrl_C (s : State) : Host.Outcome State Fault Refusal :=
  shiftOperand .srl (.reg .c) s

/-- SRL D (R152). -/
def execSrl_D (s : State) : Host.Outcome State Fault Refusal :=
  shiftOperand .srl (.reg .d) s

/-- SRL E (R152). -/
def execSrl_E (s : State) : Host.Outcome State Fault Refusal :=
  shiftOperand .srl (.reg .e) s

/-- SRL H (R152). -/
def execSrl_H (s : State) : Host.Outcome State Fault Refusal :=
  shiftOperand .srl (.reg .h) s

/-- SRL L (R152). -/
def execSrl_L (s : State) : Host.Outcome State Fault Refusal :=
  shiftOperand .srl (.reg .l) s

/-- SRL (HL) (R152). -/
def execSrl_atHL (s : State) : Host.Outcome State Fault Refusal :=
  shiftOperand .srl .atHL s

/-- SRL A (R152). -/
def execSrl_A (s : State) : Host.Outcome State Fault Refusal :=
  shiftOperand .srl (.reg .a) s

end Sys2Proof.Machine
end

