-- ==== Sys2Proof/Machine/System.lean ====
section
/-! DEFINITION. System and processor-control instructions (spec/48_system.md R169 to R174). -/

namespace Sys2Proof.Machine

/-- NOP (R169). -/
def noEffect (s : State) : Host.Outcome State Fault Refusal :=
  .next s

/-- `cpu_state <- HALTED` (R170). -/
def haltCore (s : State) : Host.Outcome State Fault Refusal :=
  .next { s with cpu := .halted }

/-- `cpu_state <- STOPPED; div16 <- 0` (R171). -/
def stopCore (s : State) : Host.Outcome State Fault Refusal :=
  .next { s with cpu := .stopped, div16 := 0 }

/-- `IME <- 0; ei_delay <- 0` (R172). -/
def disableInterrupts (s : State) : Host.Outcome State Fault Refusal :=
  .next { s with ime := false, eiDelay := false }

/-- `ei_delay <- 1` (R173). -/
def enableInterruptsAfterNext (s : State) : Host.Outcome State Fault Refusal :=
  .next { s with eiDelay := true }

/-- An undefined opcode at PC raises DecodeError (R174, spec/60_exceptions.md R176). The engine runs it on the state as
fetched: no PC advance, no ei_delay, no tick. -/
def undefinedOpcode (opcode : Byte) (s : State) : Host.Outcome State Fault Refusal :=
  .next (raiseDecodeError opcode s)

/-! ## One meaning per instruction -/

/-- NOP (R169). -/
def execNop (s : State) : Host.Outcome State Fault Refusal :=
  noEffect s

/-- STOP (R171). -/
def execStop (_pad : Byte) (s : State) : Host.Outcome State Fault Refusal :=
  stopCore s

/-- HALT (R170). -/
def execHalt (s : State) : Host.Outcome State Fault Refusal :=
  haltCore s

/-- The eleven undefined opcodes (R174). -/
def execUndefined (opcode : Byte) (s : State) : Host.Outcome State Fault Refusal :=
  undefinedOpcode opcode s

/-- DI (R172). -/
def execDi (s : State) : Host.Outcome State Fault Refusal :=
  disableInterrupts s

/-- EI (R173). -/
def execEi (s : State) : Host.Outcome State Fault Refusal :=
  enableInterruptsAfterNext s

end Sys2Proof.Machine
end

