-- ==== Sys2Proof/Machine/Timer.lean ====
section
/-! DEFINITION. The timer (spec/60_exceptions.md R191 to R196). -/

namespace Sys2Proof.Machine

/-- The divider bit a clock select names (R194): its falling edge is the TIMA clock. -/
def selectedBit (select : Nat) : Nat :=
  match select with
  | 0 => 9
  | 1 => 3
  | 2 => 5
  | _ => 7

/-- TAC[2] (R32): the timer runs. -/
def timerEnabled (s : State) : Bool := s.tac.getLsbD 2

/-- TAC[1:0] (R32). -/
def clockSelect (s : State) : Nat := s.tac.toNat % 4

/-- Tick1, first part (R192): a pending reload counts down, and at 0 TIMA takes TMA and the Timer request is raised. -/
def countReload (s : State) : State :=
  if s.reloadPending = 0 then s
  else if s.reloadPending = 1 then requestInterrupt .timer { s with reloadPending := 0, tima := s.tma }
  else { s with reloadPending := s.reloadPending - 1 }

/-- TIMA increment and overflow (R195). -/
def incrementTima (s : State) : State :=
  if s.tima = 0xFF then { s with tima := 0x00, reloadPending := s.params.timerReloadDelay }
  else { s with tima := s.tima + 1 }

/-- Whether advancing the divider from `old` by one clears the selected bit (R194). -/
def fallingEdge (s : State) (old : Word) : Bool :=
  old.getLsbD (selectedBit (clockSelect s)) && !(old + 1).getLsbD (selectedBit (clockSelect s))

/-- Tick1, second and third part (R193, R194): the divider counts, and a falling edge of the selected bit clocks TIMA
while the timer runs. -/
def countDivider (s : State) : State :=
  let counted := { s with div16 := s.div16 + 1 }
  if timerEnabled s && fallingEdge s s.div16 then incrementTima counted else counted

/-- `Tick1()` (R191). -/
def tick1 (s : State) : State := countDivider (countReload s)

/-- `Tick(n)`: n clock cycles (R191). -/
def tick (n : Nat) (s : State) : State :=
  match n with
  | 0 => s
  | n + 1 => tick n (tick1 s)

end Sys2Proof.Machine
end

