-- ==== Sys2Proof/Machine/Timing.lean ====
section
/-! DEFINITION. The costs of the dispatch tables (spec/30_encoding.md R74, R75, R81, R82), in M-cycles of 4 clock cycles. -/

namespace Sys2Proof.Machine

/-- The cost of each cell of the primary map (R74), a row of the map a line; the taken figure of a conditional cell; 0 for
the prefix's own cell and for an undefined byte (R76). -/
def primaryCosts : List (List Nat) :=
  [[1, 3, 2, 2, 1, 1, 2, 1, 5, 2, 2, 2, 1, 1, 2, 1],
   [1, 3, 2, 2, 1, 1, 2, 1, 3, 2, 2, 2, 1, 1, 2, 1],
   [3, 3, 2, 2, 1, 1, 2, 1, 3, 2, 2, 2, 1, 1, 2, 1],
   [3, 3, 2, 2, 3, 3, 3, 1, 3, 2, 2, 2, 1, 1, 2, 1],
   [1, 1, 1, 1, 1, 1, 2, 1, 1, 1, 1, 1, 1, 1, 2, 1],
   [1, 1, 1, 1, 1, 1, 2, 1, 1, 1, 1, 1, 1, 1, 2, 1],
   [1, 1, 1, 1, 1, 1, 2, 1, 1, 1, 1, 1, 1, 1, 2, 1],
   [2, 2, 2, 2, 2, 2, 1, 2, 1, 1, 1, 1, 1, 1, 2, 1],
   [1, 1, 1, 1, 1, 1, 2, 1, 1, 1, 1, 1, 1, 1, 2, 1],
   [1, 1, 1, 1, 1, 1, 2, 1, 1, 1, 1, 1, 1, 1, 2, 1],
   [1, 1, 1, 1, 1, 1, 2, 1, 1, 1, 1, 1, 1, 1, 2, 1],
   [1, 1, 1, 1, 1, 1, 2, 1, 1, 1, 1, 1, 1, 1, 2, 1],
   [5, 3, 4, 4, 6, 4, 2, 4, 5, 4, 4, 0, 6, 6, 2, 4],
   [5, 3, 4, 0, 6, 4, 2, 4, 5, 4, 4, 0, 6, 0, 2, 4],
   [3, 3, 2, 0, 0, 4, 2, 4, 4, 1, 4, 0, 0, 0, 2, 4],
   [3, 3, 2, 1, 0, 4, 2, 4, 3, 2, 4, 1, 0, 0, 2, 4]]

/-- The cost of an extended opcode (R75): 2 on a register; on (HL) 3 for BIT and 4 for the others. -/
def extendedCost (xop : Byte) : Nat :=
  if fieldZ xop = 6 then (if fieldX xop = 1 then 3 else 4) else 2

/-- The cost of an opcode; of a conditional one, the figure when the condition holds (R81, R82). -/
def opcodeCost : Opcode → Nat
  | .primary op => (primaryCosts.getD (op.toNat / 16) []).getD (op.toNat % 16) 0
  | .extended xop => extendedCost xop

/-- The condition of a conditional opcode (R72): `00 1cc 000`, `11 0cc 000`, `11 0cc 010`, `11 0cc 100`. -/
def opcodeCondition : Opcode → Option Cond
  | .primary op =>
    match fieldX op, fieldZ op with
    | 0, 0 => if 4 ≤ fieldY op then some (condOf (fieldY op - 4)) else none
    | 3, 0 | 3, 2 | 3, 4 => if fieldY op < 4 then some (condOf (fieldY op)) else none
    | _, _ => none
  | .extended _ => none

/-- The cost of a conditional opcode whose condition fails (R82): JR cc 2, JP cc 3, CALL cc 3, RET cc 2. -/
def notTakenCost : Opcode → Nat
  | .primary op => if fieldX op = 0 then 2 else if fieldZ op = 0 then 2 else 3
  | .extended _ => 0

/-- The M-cycles an instruction spends in state `s` (R82): the figure that the outcome of its condition selects. An undefined
opcode spends none (R84, spec/70_reset_and_hazards.md R222). -/
def spentCost (i : Instr) (s : State) : Nat :=
  match i with
  | .undefined _ => 0
  | _ =>
    match opcodeCondition i.opcode with
    | none => opcodeCost i.opcode
    | some cc => if s.cond cc then opcodeCost i.opcode else notTakenCost i.opcode

end Sys2Proof.Machine
end

