-- ==== Sys2Proof/Machine/Engine.lean ====
section
/-! DEFINITION. The Execution Engine's step (spec/30_encoding.md R83 to R89). -/

namespace Sys2Proof.Machine

/-- What a step did (R89); the sixth outcome, Fault, is the outcome `fault` of the step itself (R177). -/
inductive StepKind where
  | executed
  | serviced (source : IntSource)
  | halted
  | stopped
  | decodeError (e : DecodeError)
deriving DecidableEq, Repr

/-- A completed step: what it did, the clock cycles it spent (spec/70_reset_and_hazards.md R222), the state after it. -/
structure StepReport where
  kind : StepKind
  cycles : Nat
  after : State
deriving DecidableEq, Repr

/-! ## Stage (c): fetch and decode -/

/-- The instruction at PC (R84, R86). Reads have no side effect (spec/20_memory.md R59), so reading the two bytes after the
opcode where the instruction is shorter changes nothing (log entry 10). -/
def fetchInstr (s : State) : Instr :=
  decodeBytes (memRead s s.pc) (memRead s (s.pc + 1)) (memRead s (s.pc + 2))

/-- The dispatch-table entries that decoding an opcode looks up (R75, R84): its own, and behind the prefix first the primary
entry of 0xCB. -/
def lookedUp : Opcode → List Opcode
  | .primary op => [.primary op]
  | .extended xop => [.primary 0xCB, .extended xop]

/-- Whether IMPLEMENTED_SET (spec/00_scope.md R10) leaves out an entry the instruction's decoding looks up: the opcode then
has no table entry (R76). -/
def isLeftOut (p : Params) (i : Instr) : Bool := (lookedUp i.opcode).any p.leftOut.contains

/-- R201: a HALTED core wakes when a source is pending and enabled, whatever IME is. -/
def wake (s : State) : State :=
  if s.cpu = .halted ∧ pendingMask s ≠ 0 then { s with cpu := .running } else s

/-- R85: a pending EI takes effect as the next instruction is decoded. -/
def applyEiDelay (s : State) : State :=
  if s.eiDelay then { s with ime := true, eiDelay := false } else s

/-- R86: PC moves past the whole instruction, modulo 65536. -/
def advancePC (n : Nat) (s : State) : State := { s with pc := s.pc + BitVec.ofNat 16 n }

/-- The state an instruction's body sees: woken (R201), the EI delay applied (R85), PC past the instruction (R86). An
undefined opcode's body sees the state the step began with, since that step changes nothing but the fault latch
(R84, spec/92_eei_decisions.md D28; log entry 20 on the wake). -/
def beforeBody (i : Instr) (s : State) : State :=
  match i with
  | .undefined _ => s
  | _ => advancePC i.length (applyEiDelay (wake s))

/-- Stages (d) and (e) (R87, R88): the body, then its clock cycles. -/
def runInstr (i : Instr) (s : State) : Host.Outcome StepReport Fault Refusal :=
  let s1 := beforeBody i s
  let cycles := 4 * spentCost i s1
  match exec i s1 with
  | .next s2 =>
    let kind :=
      match i with
      | .undefined opcode => StepKind.decodeError ⟨s.pc, opcode⟩
      | _ => StepKind.executed
    .next ⟨kind, cycles, tick cycles s2⟩
  | .fault r => .fault r
  | .refused r => .refused r

/-- The step of a fetched opcode that the dispatch table lacks (R76, spec/92_eei_decisions.md D29): DecodeError. -/
def missingEntry (s : State) : Host.Outcome StepReport Fault Refusal :=
  .next ⟨.decodeError ⟨s.pc, memRead s s.pc⟩, 0, raiseDecodeError (memRead s s.pc) s⟩

/-- Stages (c), (d), (e). -/
def fetchAndRun (s : State) : Host.Outcome StepReport Fault Refusal :=
  if isLeftOut s.params (fetchInstr s) then missingEntry s else runInstr (fetchInstr s) s

/-! ## Stages (a) and (b): interrupts and HALT -/

/-- `ServiceInterrupt(source)` with its 20 clock cycles (R184). -/
def serviceInterrupt (i : IntSource) (s : State) : StepReport :=
  ⟨.serviced i, 20, tick 20 (takeInterrupt i s)⟩

/-- The source this step services, if any (R183): IME is set and a source is pending and enabled. -/
def serviceable (s : State) : Option IntSource :=
  if s.ime then pendingAndEnabled s else none

/-- A step of a core that is neither faulted nor STOPPED (R83). `fetchAndRun` wakes the core for the instruction's body. -/
def liveStep (s : State) : Host.Outcome StepReport Fault Refusal :=
  match serviceable s with
  | some source => .next (serviceInterrupt source (wake s))
  | none => if (wake s).cpu = .halted then .next ⟨.halted, 4, tick 4 s⟩ else fetchAndRun s

/-- One Execution Engine step (R83). -/
def engineStep (s : State) : Host.Outcome StepReport Fault Refusal :=
  match s.fault with
  | some e => .fault (.latchedDecodeError e.addr e.byte)
  | none => if s.cpu = .stopped then .next ⟨.stopped, 0, s⟩ else liveStep s

/-- The state after a step, its report dropped. -/
def dropReport (r : Host.Outcome StepReport Fault Refusal) : Host.Outcome State Fault Refusal :=
  match r with
  | .next report => .next report.after
  | .fault x => .fault x
  | .refused x => .refused x

/-! ## Placing an instruction where the next step fetches -/

/-- Store a byte as the platform would, below the bus: into the ROM image or plain storage (loadROM, R55, or a write). -/
def placeByte (s : State) (addr : Word) (v : Byte) : State :=
  match busTarget s.params addr with
  | .rom k => { s with mem := Memory.write s.mem k v }
  | .ram k => { s with mem := Memory.write s.mem k v }
  | _ => s

/-- Whether a byte can be placed at an address. -/
def placeable (p : Params) (addr : Word) : Bool :=
  match busTarget p addr with
  | .rom _ => true
  | .ram _ => true
  | _ => false

/-- A state whose next step fetches at PC and whose three bytes there are plain storage: no fault latched, RUNNING, no
interrupt about to be serviced, and PC moved to the reset entry point where its own bytes are no storage (log entry 6). -/
def readyToFetch (s : State) : State :=
  let ready := { s with
    fault := none
    cpu := .running
    ime := if pendingMask s = 0 then s.ime else false }
  if placeable s.params s.pc && placeable s.params (s.pc + 1) && placeable s.params (s.pc + 2) then ready
  else { ready with pc := 0x0100 }

/-- The three bytes stored at PC, PC + 1 and PC + 2. -/
def placeAtPC (bytes : Byte × Byte × Byte) (s : State) : State :=
  match bytes with
  | (b0, b1, b2) => placeByte (placeByte (placeByte s s.pc b0) (s.pc + 1) b1) (s.pc + 2) b2

end Sys2Proof.Machine
end

