-- ==== Sys2Proof/Machine/Step.lean ====
section
/-! DEFINITION. The machine's step and the placing of an instruction for it; all of it is in Machine/Engine.lean. -/

namespace Sys2Proof.Machine

/-- One step (spec/30_encoding.md R83): Executed, Serviced, Halted, Stopped and DecodeError answer the next state, Fault
answers the fault. -/
def step (s : State) : Host.Outcome State Fault Refusal := dropReport (engineStep s)

/-- The state whose next step runs the instruction of the table word `w` (log entry 6). -/
def State.withFetchWord (s : State) (nbits w : Nat) : State :=
  placeAtPC (tableWordBytes nbits w) (readyToFetch s)

end Sys2Proof.Machine
end

