-- ==== Sys2Proof/Machine/HostControl.lean ====
section
/-! DEFINITION. Execution Control and the other host inputs (spec/60_exceptions.md R205 to R213, spec/20_memory.md R55,
spec/70_reset_and_hazards.md R214, R217). Every one acts between two steps. -/

namespace Sys2Proof.Machine

/-- `loadROM(bytes)` (R55, R217): the ROM image is replaced, nothing else changes. -/
def loadROM (image : List Byte) (s : State) : State :=
  { s with mem := romCells image ++ s.mem.filter fun cell => !isRomAddress cell.1 }

/-- `reset()` (R214): power-on values, but the ROM image, the breakpoint set and cancel_flag are kept. A hooked device is
told of it (log entry 5). -/
def hostReset (s : State) : State :=
  { State.powerOn s.params with
    mem := (s.mem.filter fun cell => isRomAddress cell.1) ++ initialRam s.params
    hookTrace := s.hookTrace ++ [.coreReset]
    breakpoints := s.breakpoints
    cancelFlag := s.cancelFlag }

/-- `addBreakpoint(address)` (R207). -/
def addBreakpoint (address : Nat) (s : State) : State :=
  let addr := BitVec.ofNat 16 address
  if s.breakpoints.contains addr then s else { s with breakpoints := s.breakpoints ++ [addr] }

/-- `removeBreakpoint(index)` (R208). -/
def removeBreakpoint (index : Nat) (s : State) : State :=
  { s with breakpoints := s.breakpoints.eraseIdx index }

/-- `stopWake()` (R204). -/
def stopWake (s : State) : State :=
  if s.cpu = .stopped then { s with cpu := .running } else s

/-- The actions of the table of R213 that change the state, and a hooked device's own activity (log entry 5).
`step()` is `step`; `readByte` is `memRead`; the read-only accessors of R210 are the fields and views of State. -/
inductive HostAction where
  | loadROM (image : List Byte)
  | addBreakpoint (address : Nat)
  | removeBreakpoint (index : Nat)
  | reset
  | writeByte (addr : Word) (v : Byte)
  | requestInterrupt (source : IntSource)
  | stopWake
  | setCancel (flag : Bool)
  | deviceActs
deriving DecidableEq, Repr

/-- The effect of a host action (R213). -/
def hostAct (action : HostAction) (s : State) : State :=
  match action with
  | .loadROM image => Sys2Proof.Machine.loadROM image s
  | .addBreakpoint address => Sys2Proof.Machine.addBreakpoint address s
  | .removeBreakpoint index => Sys2Proof.Machine.removeBreakpoint index s
  | .reset => hostReset s
  | .writeByte addr v => memWrite s addr v
  | .requestInterrupt source => Sys2Proof.Machine.requestInterrupt source s
  | .stopWake => Sys2Proof.Machine.stopWake s
  | .setCancel flag => { s with cancelFlag := flag }
  | .deviceActs => { s with hookTrace := s.hookTrace ++ [.acted] }

/-- How `runToBreakpoint()` ends (R206, R225). -/
inductive RunResult where
  /-- The host's input list is used up: the loop is still running. -/
  | running (s : State)
  | cancelled (s : State)
  | breakpointHit (addr : Word) (s : State)
  | decodeError (e : DecodeError) (s : State)
  | fault (r : Fault)
  | refused (r : Refusal)
deriving DecidableEq, Repr

/-- `runToBreakpoint()` (R206). `inputs` holds, for each iteration, what the host does just before that iteration polls the
flag (R211, R213): the loop itself has no bound, so its length bounds the iterations seen (log entry 19). -/
def runToBreakpoint (inputs : List (List HostAction)) (s : State) : RunResult :=
  match inputs with
  | [] => .running s
  | actions :: later =>
    let s1 := actions.foldl (fun t act => hostAct act t) s
    if s1.cancelFlag then .cancelled s1
    else
      match engineStep s1 with
      | .fault r => .fault r
      | .refused r => .refused r
      | .next report =>
        match report.kind with
        | .decodeError e => .decodeError e report.after
        | _ =>
          if report.after.breakpoints.contains report.after.pc then .breakpointHit report.after.pc report.after
          else runToBreakpoint later report.after

end Sys2Proof.Machine
end

