-- ==== Sys2Proof/Safety.lean ====
section
/-! DEFINITION. Legal parameters, the machine's invariant, what can change when a byte is stored, and the frames the
statements use. -/

namespace Sys2Proof.Machine

/-! ## The invariant -/

/-- The legal parameters: the delay range 1..15 (spec/60_exceptions.md R195), RAM_INIT in canonical form. -/
def legalParams (p : Params) : Bool :=
  decide (1 ≤ p.timerReloadDelay) && decide (p.timerReloadDelay ≤ 15) && Memory.wf p.ramInit

/-- A cell's address is a byte of the ROM image or of RAM: echo addresses, unmapped addresses, the owned registers, IE and
hooked addresses hold no cell. -/
def isBacked (p : Params) (addr : Nat) : Bool := isRomAddress addr || isRamAddress p addr

/-- What every reachable state satisfies. -/
structure State.Inv (s : State) : Prop where
  params_legal : legalParams s.params = true
  /-- Memory keeps its canonical form. -/
  mem_canonical : Memory.wf s.mem = true
  /-- Every stored byte is at an address that has storage (spec/20_memory.md R42). -/
  mem_backed : ∀ cell ∈ s.mem, isBacked s.params cell.1 = true
  /-- reload_pending is a counter in 0..TIMER_RELOAD_DELAY (spec/10_state.md R33). -/
  reload_bounded : s.reloadPending ≤ s.params.timerReloadDelay
  /-- While a reload is pending TIMA reads 0x00 (R33, R195). -/
  reload_zero : s.reloadPending ≠ 0 → s.tima = 0x00
  /-- The clock cycles since the overflow keep the next falling edge outside the delay window (R195). -/
  reload_phase : s.reloadPending ≠ 0 → s.div16.toNat % 16 + s.reloadPending ≤ s.params.timerReloadDelay
  /-- The members of the breakpoint set are distinct (R36). -/
  breakpoints_distinct : s.breakpoints.Nodup

/-! ## Frames -/

/-- Every byte register but those listed is unchanged. -/
def sameRegsBut (changed : List Reg) (s t : State) : Prop :=
  ∀ r, r ∉ changed → t.reg r = s.reg r

/-- IME, ei_delay, cpu_state and the fault latch are unchanged. -/
def sameControl (s t : State) : Prop :=
  t.ime = s.ime ∧ t.eiDelay = s.eiDelay ∧ t.cpu = s.cpu ∧ t.fault = s.fault

/-- The timer is unchanged. -/
def sameTimer (s t : State) : Prop :=
  t.div16 = s.div16 ∧ t.tima = s.tima ∧ t.tma = s.tma ∧ t.tac = s.tac ∧ t.reloadPending = s.reloadPending

/-- IE and IF are unchanged. -/
def sameRequests (s t : State) : Prop := t.ie = s.ie ∧ t.ifl = s.ifl

/-- The breakpoint set, cancel_flag and the parameters are unchanged. -/
def sameHostSide (s t : State) : Prop :=
  t.breakpoints = s.breakpoints ∧ t.cancelFlag = s.cancelFlag ∧ t.params = s.params

/-- Nothing was stored: every address reads as before, and no cell and no hooked device was written. -/
def nothingStored (s t : State) : Prop :=
  t.mem = s.mem ∧ t.hookTrace = s.hookTrace ∧ ∀ addr, memRead t addr = memRead s addr

/-- The frame of an instruction that stores nothing: of all the state only the listed byte registers, F, SP and PC may
have changed. -/
def registerFrame (changed : List Reg) (s t : State) : Prop :=
  sameRegsBut changed s t ∧ sameControl s t ∧ sameTimer s t ∧ sameRequests s t ∧ sameHostSide s t ∧ nothingStored s t

/-- Whether a store to `x` can change what `addr` reads as: they select the same thing on the bus (an echo address and its
WRAM byte do), or both are hooked, where the device decides. -/
def storeReaches (p : Params) (x addr : Word) : Bool :=
  match busTarget p x, busTarget p addr with
  | .hook _, .hook _ => true
  | tx, ta => decide (tx = ta)

/-- Every address that no stored address reaches reads as before. -/
def readsAsBeforeOutside (stored : List Word) (s t : State) : Prop :=
  ∀ addr, (∀ x ∈ stored, storeReaches s.params x addr = false) → memRead t addr = memRead s addr

/-- A register on the bus changes only where a stored address selects it; reload_pending belongs to TIMA, div16 to DIV.
The devices' record changes only where a stored address is hooked. -/
def busRegistersOutside (stored : List Word) (s t : State) : Prop :=
  ((∀ x ∈ stored, busTarget s.params x ≠ .div) → t.div16 = s.div16) ∧
  ((∀ x ∈ stored, busTarget s.params x ≠ .tima) → t.tima = s.tima ∧ t.reloadPending = s.reloadPending) ∧
  ((∀ x ∈ stored, busTarget s.params x ≠ .tma) → t.tma = s.tma) ∧
  ((∀ x ∈ stored, busTarget s.params x ≠ .tac) → t.tac = s.tac) ∧
  ((∀ x ∈ stored, busTarget s.params x ≠ .iflag) → t.ifl = s.ifl) ∧
  ((∀ x ∈ stored, busTarget s.params x ≠ .ie) → t.ie = s.ie) ∧
  ((∀ x ∈ stored, ∀ a, busTarget s.params x ≠ .hook a) → t.hookTrace = s.hookTrace)

/-- The frame of an instruction that stores to the listed addresses: of all the state only what a store to them reaches,
the listed byte registers, F, SP and PC may have changed. -/
def storeFrame (changed : List Reg) (stored : List Word) (s t : State) : Prop :=
  sameRegsBut changed s t ∧ sameControl s t ∧ sameHostSide s t ∧
  readsAsBeforeOutside stored s t ∧ busRegistersOutside stored s t

/-- The result `v` went to R8[z] (spec/30_encoding.md R72): to a register, or to the byte at the old HL by MemWrite; beside
it only F, SP and PC may have changed. -/
def wroteOperand (o : Operand8) (v : Byte) (s t : State) : Prop :=
  match o with
  | .reg r => t.reg r = v ∧ registerFrame [r] s t
  | .atHL => t = { memWrite s s.hl v with f := t.f } ∧ storeFrame [] [s.hl] s t

/-- The values of R39 and R214 that power-on and `reset()` share, for the machine with parameters `p`. -/
def atReset (p : Params) (t : State) : Prop :=
  t.pc = 0x0100 ∧ t.sp = 0xFFFE ∧ t.f = ⟨false, false, false, false⟩ ∧
  t.a = p.regReset.a ∧ t.b = p.regReset.b ∧ t.c = p.regReset.c ∧ t.d = p.regReset.d ∧ t.e = p.regReset.e ∧
  t.h = p.regReset.h ∧ t.l = p.regReset.l ∧
  t.ime = false ∧ t.eiDelay = false ∧ t.ie = 0x00 ∧ t.ifl = 0 ∧
  t.div16 = 0x0000 ∧ t.tima = 0x00 ∧ t.tma = 0x00 ∧ t.tac = 0 ∧ t.reloadPending = 0 ∧
  t.cpu = .running ∧ t.fault = none ∧ t.params = p ∧
  ∀ addr k, busTarget p addr = .ram k → memRead t addr = Memory.read p.ramInit k

/-- The step goes straight to stage (c) of R83: no fault, RUNNING, and no source that IME lets be serviced. -/
def fetchesNow (s : State) : Prop :=
  s.fault = none ∧ s.cpu = .running ∧ (s.ime = true → pendingMask s = 0)

/-- The bytes at PC decode to `i`, and IMPLEMENTED_SET holds it (spec/30_encoding.md R84, R76). -/
def instrAtPC (i : Instr) (s : State) : Prop :=
  (∃ rest, decode [memRead s s.pc, memRead s (s.pc + 1), memRead s (s.pc + 2)] = .ok (i, rest)) ∧
  isLeftOut s.params i = false

/-- An ALU instruction of operation `op` whose operand is `v` in state `s` (spec/43_alu8.md R118). -/
def aluForm (op : AluOp) (i : Instr) (v : Byte) (s : State) : Prop :=
  (∃ o, i = Form.alu op o ∧ v = readOperand o s) ∨ i = Form.aluImm op v

/-- Two decimal digits as one BCD byte. -/
def bcd (n : Nat) : Byte := BitVec.ofNat 8 (16 * (n / 10) + n % 10)

/-! ## Which instructions do what: the lists the whole-machine rules give -/

/-- The instructions that write flags (spec/10_state.md R20). -/
def writesFlags (i : Instr) : Prop :=
  (∃ op o, i = Form.alu op o) ∨ (∃ op v, i = Form.aluImm op v) ∨ (∃ o, i = Form.inc o) ∨ (∃ o, i = Form.dec o) ∨
  i = .rlca ∨ i = .rrca ∨ i = .rla ∨ i = .rra ∨ (∃ op o, i = Form.shift op o) ∨ (∃ b o, i = Form.bit b o) ∨
  i = .daa ∨ i = .cpl ∨ i = .scf ∨ i = .ccf ∨ (∃ p, i = Form.addHL p) ∨ (∃ e, i = .add_SP_r8 e) ∨
  (∃ e, i = .ld_HL_SPr8 e) ∨ i = .pop_AF

/-- The control transfers (spec/47_control.md R157 to R167): the instructions whose body may set PC. -/
def isTransfer (i : Instr) : Prop :=
  (∃ w, i = .jp_a16 w) ∨ (∃ cc w, i = Form.jpCond cc w) ∨ i = .jp_HL ∨ (∃ e, i = .jr_r8 e) ∨ (∃ cc e, i = Form.jrCond cc e) ∨
  (∃ w, i = .call_a16 w) ∨ (∃ cc w, i = Form.callCond cc w) ∨ i = .ret ∨ (∃ cc, i = Form.retCond cc) ∨ i = .reti ∨
  (∃ t, i = Form.rst t)

/-! ## The operand codes of R72, as bit fields of an opcode, and the cost of an instruction -/

/-- R8[code] of a register. -/
def Reg.code : Reg → BitVec 3
  | .b => 0
  | .c => 1
  | .d => 2
  | .e => 3
  | .h => 4
  | .l => 5
  | .a => 7

/-- R8[code] of an operand; code 6 is the byte at HL. -/
def Operand8.code : Operand8 → BitVec 3
  | .reg r => Reg.code r
  | .atHL => 6

/-- R16[code]. -/
def Pair.code : Pair → BitVec 2
  | .bc => 0
  | .de => 1
  | .hl => 2
  | .sp => 3

/-- R16S[code]. -/
def StackPair.code : StackPair → BitVec 2
  | .bc => 0
  | .de => 1
  | .hl => 2
  | .af => 3

/-- CC[code]. -/
def Cond.code : Cond → BitVec 2
  | .nz => 0
  | .z => 1
  | .nc => 2
  | .c => 3

/-- Field y of an ALU opcode (spec/43_alu8.md R118). -/
def AluOp.code : AluOp → BitVec 3
  | .add => 0
  | .adc => 1
  | .sub => 2
  | .sbc => 3
  | .and => 4
  | .xor => 5
  | .or => 6
  | .cp => 7

/-- Field y of a 0xCB rotate or shift (spec/45_rotate_shift.md R144). -/
def ShiftOp.code : ShiftOp → BitVec 3
  | .rlc => 0
  | .rrc => 1
  | .rl => 2
  | .rr => 3
  | .sla => 4
  | .sra => 5
  | .swap => 6
  | .srl => 7

/-- An opcode byte `xx yyy zzz` (R71). -/
def opcodeXYZ (x : BitVec 2) (y z : BitVec 3) : Byte := x ++ y ++ z

/-- An opcode byte `xx ppq zzz` (R71). -/
def opcodeXPQZ (x p : BitVec 2) (q : BitVec 1) (z : BitVec 3) : Byte := x ++ p ++ q ++ z

/-- The instruction has these bytes, and spends this many M-cycles whatever the state. -/
def hasEncoding (i : Instr) (bytes : List Byte) (cost : Nat) : Prop :=
  encode i = bytes ∧ ∀ s, spentCost i s = cost

/-- The conditional instruction has these bytes, and spends `taken` M-cycles where the condition holds, `notTaken` where it
fails (spec/30_encoding.md R82). -/
def hasCondEncoding (i : Instr) (cc : Cond) (bytes : List Byte) (taken notTaken : Nat) : Prop :=
  encode i = bytes ∧ ∀ s, spentCost i s = if s.cond cc then taken else notTaken

end Sys2Proof.Machine
end

