-- ==== Sys2Proof/Certificates/Slice0/Obligations.lean ====
section
/-! DEFINITION. The statements for the provers. Each docstring names the rules of spec/ it formalises. -/

open Sys2Proof Sys2Proof.Machine

/-! ## Encoding -/

/-- Decoding an encoded well-formed instruction gives it back, with the bytes after it (spec/30_encoding.md R69 to R77). -/
def Obligations.DecodeInvertsEncode : Prop :=
  ∀ (i : Instr) (rest : List Byte), i.wellFormed = true → decode (encode i ++ rest) = .ok (i, rest)

/-- Every decoded byte string is the encoding of the well-formed instruction read from it, so no byte of an instruction is
dropped and no two byte strings of one length read as the same instruction (R70, R77). -/
def Obligations.EncodeInvertsDecode : Prop :=
  ∀ (bytes : List Byte) (i : Instr) (rest : List Byte),
    decode bytes = .ok (i, rest) → i.wellFormed = true ∧ encode i ++ rest = bytes

/-- R78: the first byte alone fixes the length, 1 to 3 bytes, 2 behind 0xCB; the decoder needs exactly that many bytes. -/
def Obligations.LengthFromFirstByte : Prop :=
  (∀ op b1 b2 c1 c2 : Byte, (decodeBytes op b1 b2).length = (decodeBytes op c1 c2).length) ∧
  (∀ b1 b2 : Byte, (decodeBytes 0xCB b1 b2).length = 2) ∧
  (∀ i : Instr, 1 ≤ i.length ∧ i.length ≤ 3) ∧
  (∀ (op : Byte) (rest : List Byte),
    (∃ i later, decode (op :: rest) = .ok (i, later)) ↔ (decodeBytes op 0 0).length ≤ rest.length + 1)

/-- Bytes written out from R70 to R75 and the instruction of their map cell, one or two of each family. -/
def Obligations.SampleWordsDecode : Prop :=
  decode [0b01001000] = .ok (.ld_C_B, []) ∧
  decode [0b00111110, 0xFF] = .ok (.ld_A_d8 0xFF, []) ∧
  decode [0b00100010] = .ok (.ld_atHLI_A, []) ∧
  decode [0b11110000, 0x05] = .ok (.ldh_A_atA8 0x05, []) ∧
  decode [0b00010001, 0x5F, 0x89] = .ok (.ld_DE_d16 0x895F, []) ∧
  decode [0b11110101] = .ok (.push_AF, []) ∧
  decode [0b10011110] = .ok (.sbc_A_atHL, []) ∧
  decode [0b00110101] = .ok (.dec_atHL, []) ∧
  decode [0b00111001] = .ok (.add_HL_SP, []) ∧
  decode [0b11001011, 0b00110111] = .ok (.swap_A, []) ∧
  decode [0b11001011, 0b01111100] = .ok (.bit_7_H, []) ∧
  decode [0b11010100, 0x34, 0x12] = .ok (.call_NC_a16 0x1234, []) ∧
  decode [0b11101111] = .ok (.rst_28H, []) ∧
  decode [0b00010000, 0x00] = .ok (.stop 0x00, []) ∧
  decode [0b01110110] = .ok (.halt, []) ∧
  decode [0b11010011] = .ok (.undefined 0xD3, [])

/-! ## Reset and the invariant -/

/-- R39, R214: what power-on and `reset()` leave, for every choice of the parameters; `reset()` keeps the ROM image, the
breakpoint set and cancel_flag, and power-on has a ROM of 0x00, no breakpoint and a clear flag. -/
def Obligations.ResetValues : Prop :=
  (∀ p : Params, atReset p (State.powerOn p) ∧ (State.powerOn p).breakpoints = [] ∧
    (State.powerOn p).cancelFlag = false ∧ ∀ addr : Word, addr.toNat ≤ 0x7FFF → memRead (State.powerOn p) addr = 0x00) ∧
  (∀ s : State, atReset s.params (hostReset s) ∧ (hostReset s).breakpoints = s.breakpoints ∧
    (hostReset s).cancelFlag = s.cancelFlag ∧
    ∀ addr : Word, addr.toNat ≤ 0x7FFF → memRead (hostReset s) addr = memRead s addr)

/-- The invariant holds after power-on, whatever the legal parameters, and at the model's reset state. -/
def Obligations.PowerOnInvariant : Prop :=
  (∀ p : Params, legalParams p = true → (State.powerOn p).Inv) ∧ State.reset.Inv

/-- Every step keeps the invariant: memory canonical and backed by storage, reload_pending within its range, TIMA 0x00 and
the divider phase inside the delay window while a reload is pending, breakpoints distinct (R33, R36, R42, R195). -/
def Obligations.StepKeepsInvariant : Prop :=
  ∀ s t : State, s.Inv → step s = .next t → t.Inv

/-- Every action of the host's table keeps the invariant (spec/60_exceptions.md R213). -/
def Obligations.HostActionsKeepInvariant : Prop :=
  ∀ (action : HostAction) (s : State), s.Inv → (hostAct action s).Inv

/-! ## The bus -/

/-- R52: what every address reads as, in the order of the rule's decision list. What stands for the rule's
`hook_read(a)` at a hooked address, the free value of the devices' record, is the model's own choice (log entry 5). -/
def Obligations.MemReadMap : Prop :=
  ∀ (s : State) (addr : Word),
    memRead s addr =
      if addr.toNat ≤ 0x7FFF then Memory.read s.mem addr.toNat
      else if addr.toNat ≤ 0x9FFF then Memory.read s.mem addr.toNat
      else if addr.toNat ≤ 0xBFFF then (if s.params.extramPresent then Memory.read s.mem addr.toNat else 0xFF)
      else if addr.toNat ≤ 0xDFFF then Memory.read s.mem addr.toNat
      else if addr.toNat ≤ 0xFDFF then Memory.read s.mem (addr.toNat - 0x2000)
      else if addr.toNat ≤ 0xFE9F then Memory.read s.mem addr.toNat
      else if addr.toNat ≤ 0xFEFF then 0xFF
      else if addr = 0xFF04 then s.div16.extractLsb' 8 8
      else if addr = 0xFF05 then s.tima
      else if addr = 0xFF06 then s.tma
      else if addr = 0xFF07 then 0xF8 ||| s.tac.zeroExtend 8
      else if addr = 0xFF0F then 0xE0 ||| s.ifl.zeroExtend 8
      else if addr.toNat ≤ 0xFF7F then
        (if s.params.hooked.contains addr then Config.hookRead s.hookTrace addr else Memory.read s.mem addr.toNat)
      else if addr.toNat ≤ 0xFFFE then Memory.read s.mem addr.toNat
      else s.ie

/-- R53: what a write to every address does, in the order of the rule's decision list. `hook_write(a, v)` reaches the device
only: of this core nothing changes, and `hookTrace` is the model's record for the device (`HookedAccess`). -/
def Obligations.MemWriteMap : Prop :=
  ∀ (s : State) (addr : Word) (v : Byte),
    memWrite s addr v =
      if addr.toNat ≤ 0x7FFF then s
      else if addr.toNat ≤ 0x9FFF then { s with mem := Memory.write s.mem addr.toNat v }
      else if addr.toNat ≤ 0xBFFF then
        (if s.params.extramPresent then { s with mem := Memory.write s.mem addr.toNat v } else s)
      else if addr.toNat ≤ 0xDFFF then { s with mem := Memory.write s.mem addr.toNat v }
      else if addr.toNat ≤ 0xFDFF then { s with mem := Memory.write s.mem (addr.toNat - 0x2000) v }
      else if addr.toNat ≤ 0xFE9F then { s with mem := Memory.write s.mem addr.toNat v }
      else if addr.toNat ≤ 0xFEFF then s
      else if addr = 0xFF04 then { s with div16 := 0 }
      else if addr = 0xFF05 then { s with tima := v, reloadPending := 0 }
      else if addr = 0xFF06 then { s with tma := v }
      else if addr = 0xFF07 then { s with tac := v.extractLsb' 0 3 }
      else if addr = 0xFF0F then { s with ifl := v.extractLsb' 0 5 }
      else if addr.toNat ≤ 0xFF7F then
        (if s.params.hooked.contains addr then { s with hookTrace := (memWrite s addr v).hookTrace }
         else { s with mem := Memory.write s.mem addr.toNat v })
      else if addr.toNat ≤ 0xFFFE then { s with mem := Memory.write s.mem addr.toNat v }
      else { s with ie := v }

/-- A hooked address, which is never an owned one (R54): a read answers the free value `Config.hookRead` of what has reached
the devices so far, and a write is appended to that record. The record is the model's own choice (log entry 5). -/
def Obligations.HookedAccess : Prop :=
  ∀ (s : State) (addr : Word) (v : Byte), 0xFF00 ≤ addr.toNat → addr.toNat ≤ 0xFF7F →
    addr ∉ ([0xFF04, 0xFF05, 0xFF06, 0xFF07, 0xFF0F] : List Word) → addr ∈ s.params.hooked →
    memRead s addr = Config.hookRead s.hookTrace addr ∧
    memWrite s addr v = { s with hookTrace := s.hookTrace ++ [.write addr v] }

/-- Read after write (R44 to R47, R50, R51, R54, R62): an address of VRAM, external RAM where present, WRAM, the echo, OAM, an
unhooked plain I/O byte, HRAM, IE, TIMA or TMA reads back what was written; every address that selects something else reads as
before; no register of the core changes. What a hooked device records is the model's own choice (log entry 5). -/
def Obligations.ReadAfterWrite : Prop :=
  ∀ (s : State) (x : Word) (v : Byte),
    ((0x8000 ≤ x.toNat ∧ x.toNat ≤ 0x9FFF) ∨ (0xC000 ≤ x.toNat ∧ x.toNat ≤ 0xFE9F) ∨ 0xFF80 ≤ x.toNat ∨
      x = 0xFF05 ∨ x = 0xFF06 → memRead (memWrite s x v) x = v) ∧
    (0xA000 ≤ x.toNat → x.toNat ≤ 0xBFFF → s.params.extramPresent = true → memRead (memWrite s x v) x = v) ∧
    (0xFF00 ≤ x.toNat → x.toNat ≤ 0xFF7F → x ∉ ([0xFF04, 0xFF05, 0xFF06, 0xFF07, 0xFF0F] : List Word) →
      x ∉ s.params.hooked → memRead (memWrite s x v) x = v) ∧
    storeFrame [] [x] s (memWrite s x v) ∧
    (memWrite s x v).f = s.f ∧ (memWrite s x v).sp = s.sp ∧ (memWrite s x v).pc = s.pc

/-- R46: WRAM reads back what was written, and an address of 0xE000-0xFDFF reads and writes the WRAM byte 0x2000 lower. -/
def Obligations.EchoOfWorkRam : Prop :=
  (∀ (s : State) (a : Word) (v : Byte), 0xC000 ≤ a.toNat → a.toNat ≤ 0xDFFF → memRead (memWrite s a v) a = v) ∧
  (∀ (s : State) (a : Word) (v : Byte), 0xE000 ≤ a.toNat → a.toNat ≤ 0xFDFF →
    memRead s a = memRead s (a - 0x2000) ∧ memWrite s a v = memWrite s (a - 0x2000) v)

/-- No step changes the ROM (R43, R66), the parameters, the breakpoint set (spec/10_state.md R36) or cancel_flag
(spec/60_exceptions.md R211); a write to the ROM region changes no state at all. That the parameters stand in State is the
model's own choice (log entry 3). -/
def Obligations.StepKeepsRomAndHostSide : Prop :=
  (∀ (s : State) (x : Word) (v : Byte), x.toNat ≤ 0x7FFF → memWrite s x v = s) ∧
  (∀ s t : State, step s = .next t →
    (∀ addr : Word, addr.toNat ≤ 0x7FFF → memRead t addr = memRead s addr) ∧ sameHostSide s t)

/-! ## The step -/

/-- R84 to R88: where the bytes at PC decode to `i` and nothing is serviced, step is exec of `i` at that state with the EI
delay applied and PC past the instruction, and then `i`'s clock cycles are ticked. An undefined opcode's exec runs on the
state as it is, with no PC advance, no EI delay and no tick. How exec and the engine divide the step is the model's reading
(log entry 8), and so is the next state of an undefined opcode (log entry 4). -/
def Obligations.StepRunsDecodedInstruction : Prop :=
  ∀ (s : State) (i : Instr), fetchesNow s → instrAtPC i s →
    ((∀ op, i ≠ .undefined op) →
      let s1 := { s with ime := s.ime || s.eiDelay, eiDelay := false, pc := s.pc + BitVec.ofNat 16 i.length }
      ∃ t, exec i s1 = .next t ∧ step s = .next (tick (4 * spentCost i s1) t)) ∧
    (∀ op, i = .undefined op → step s = exec i s)

/-- R76, R174, R176: exactly eleven bytes are undefined; fetching one, or an opcode left out of IMPLEMENTED_SET, answers
DecodeError with PC and the byte, spends no time and changes nothing but the fault latch. With the prefix 0xCB left out every
extended instruction does so with the byte 0xCB. That the latch, and nothing else, is written is the model's reading of R176
beside R177 (log entry 4), and the left-out clauses are its reading of R10 (log entry 9). -/
def Obligations.UndefinedOpcodesRaiseDecodeError : Prop :=
  (∀ op b1 b2 : Byte, (∃ x, decodeBytes op b1 b2 = .undefined x) ↔
    op ∈ ([0xD3, 0xDB, 0xDD, 0xE3, 0xE4, 0xEB, 0xEC, 0xED, 0xF4, 0xFC, 0xFD] : List Byte)) ∧
  (∀ (s : State) (i : Instr) (rest : List Byte), fetchesNow s →
    decode [memRead s s.pc, memRead s (s.pc + 1), memRead s (s.pc + 2)] = .ok (i, rest) →
    (memRead s s.pc ∈ ([0xD3, 0xDB, 0xDD, 0xE3, 0xE4, 0xEB, 0xEC, 0xED, 0xF4, 0xFC, 0xFD] : List Byte) ∨
      (isLeftOut s.params i = true ∧ memRead s s.pc ≠ 0xCB) →
      engineStep s = .next ⟨.decodeError ⟨s.pc, memRead s s.pc⟩, 0, { s with fault := some ⟨s.pc, memRead s s.pc⟩ }⟩) ∧
    (isLeftOut s.params i = true → ∃ byte,
      engineStep s = .next ⟨.decodeError ⟨s.pc, byte⟩, 0, { s with fault := some ⟨s.pc, byte⟩ }⟩)) ∧
  (∀ s : State, fetchesNow s → .primary 0xCB ∈ s.params.leftOut → memRead s s.pc = 0xCB →
    engineStep s = .next ⟨.decodeError ⟨s.pc, 0xCB⟩, 0, { s with fault := some ⟨s.pc, 0xCB⟩ }⟩) ∧
  (∀ (op : Byte) (s : State), exec (.undefined op) s = .next { s with fault := some ⟨s.pc, op⟩ })

/-- R177: the step that answers DecodeError latches it; a latched core answers Fault with the recorded address and byte at
every step; no host action but `reset()` clears the latch, and `reset()` does. -/
def Obligations.FaultLatchIsSticky : Prop :=
  (∀ (s t : State) (e : DecodeError) (cycles : Nat),
    engineStep s = .next ⟨.decodeError e, cycles, t⟩ → s.fault = none ∧ t.fault = some e) ∧
  (∀ (s : State) (addr : Word) (byte : Byte), s.fault = some ⟨addr, byte⟩ →
    engineStep s = .fault (.latchedDecodeError addr byte) ∧ step s = .fault (.latchedDecodeError addr byte)) ∧
  (∀ (action : HostAction) (s : State), action ≠ .reset → (hostAct action s).fault = s.fault) ∧
  (∀ s : State, (hostAct .reset s).fault = none)

/-- R203, R204: a STOPPED step changes nothing and spends nothing, and a run loop on it spins, unless R206 ends it at a
breakpoint; only `stopWake()` takes the core back to RUNNING, and it does nothing to a core that is not STOPPED. The loop is
stated through the list of the host's inputs, the model's own choice (log entry 19). -/
def Obligations.StoppedCoreWaitsForStopWake : Prop :=
  (∀ s : State, s.fault = none → s.cpu = .stopped → engineStep s = .next ⟨.stopped, 0, s⟩ ∧ step s = .next s) ∧
  (∀ (later : List (List HostAction)) (s : State), s.fault = none → s.cpu = .stopped → s.cancelFlag = false →
    s.pc ∉ s.breakpoints → runToBreakpoint ([] :: later) s = runToBreakpoint later s) ∧
  (∀ s : State, s.cpu = .stopped → hostAct .stopWake s = { s with cpu := .running }) ∧
  (∀ s : State, s.cpu ≠ .stopped → hostAct .stopWake s = s) ∧
  (∀ (action : HostAction) (s : State), s.cpu = .stopped → action ≠ .stopWake → action ≠ .reset →
    (hostAct action s).cpu = .stopped)

/-- R200, R201, R202: a HALTED core with no source pending and enabled idles for 4 clock cycles; with one it goes on as a
RUNNING core does, whatever IME is. Where the instruction after HALT is an undefined opcode, the DecodeError step changes
nothing but the fault latch, so cpu_state stays HALTED: the model's reading of R176 (log entry 20). -/
def Obligations.HaltIdlesOrWakes : Prop :=
  (∀ s : State, s.fault = none → s.cpu = .halted → s.ie.extractLsb' 0 5 &&& s.ifl = 0 →
    engineStep s = .next ⟨.halted, 4, tick 4 s⟩) ∧
  (∀ s : State, s.fault = none → s.cpu = .halted → s.ie.extractLsb' 0 5 &&& s.ifl ≠ 0 → s.ime = true →
    engineStep s = engineStep { s with cpu := .running } ∧
    ∃ source t, engineStep s = .next ⟨.serviced source, 20, t⟩) ∧
  (∀ (s : State) (i : Instr), s.fault = none → s.cpu = .halted → s.ie.extractLsb' 0 5 &&& s.ifl ≠ 0 → s.ime = false →
    instrAtPC i s →
    ((∀ op, i ≠ .undefined op) → engineStep s = engineStep { s with cpu := .running }) ∧
    (∀ op, i = .undefined op →
      engineStep s = .next ⟨.decodeError ⟨s.pc, op⟩, 0, { s with fault := some ⟨s.pc, op⟩ }⟩))

/-- R184: taking an interrupt clears IME and ei_delay, pushes PC high byte first, jumps to the source's vector, clears the
source's request in IF as the push left it, spends 20 clock cycles, and changes nothing else but a HALTED cpu_state. -/
def Obligations.ServiceInterrupt : Prop :=
  ∀ (s : State) (source : IntSource), s.fault = none → s.cpu ≠ .stopped → s.ime = true →
    pendingAndEnabled s = some source →
    let s0 := { s with cpu := .running, ime := false, eiDelay := false }
    let pushed := memWrite (memWrite s0 (s.sp - 1) (s.pc.extractLsb' 8 8)) (s.sp - 2) (s.pc.extractLsb' 0 8)
    engineStep s = .next ⟨.serviced source, 20, tick 20 { pushed with
      sp := s.sp - 2
      pc := source.vector
      ifl := pushed.ifl &&& ~~~((1#5) <<< source.bit) }⟩

/-- R179, R181: the bits and vectors of the five sources, and the selection of the lowest-numbered bit set in IE and IF. -/
def Obligations.HighestPriorityPendingSource : Prop :=
  ([IntSource.vblank, .lcdStatus, .timer, .serial, .joypad].map fun i => (i.bit, i.vector)) =
    [(0, 0x0040#16), (1, 0x0048#16), (2, 0x0050#16), (3, 0x0058#16), (4, 0x0060#16)] ∧
  (∀ (s : State) (i : IntSource), pendingAndEnabled s = some i ↔
    (s.ie.getLsbD i.bit = true ∧ s.ifl.getLsbD i.bit = true) ∧
    ∀ j : IntSource, j.bit < i.bit → ¬(s.ie.getLsbD j.bit = true ∧ s.ifl.getLsbD j.bit = true)) ∧
  (∀ s : State, pendingAndEnabled s = none ↔
    ∀ j : IntSource, ¬(s.ie.getLsbD j.bit = true ∧ s.ifl.getLsbD j.bit = true))

/-- R183: a step services a source exactly when the core is neither faulted nor STOPPED, IME is set and that source is the
one pending and enabled; with IME clear no request is lost in the interrupt check. -/
def Obligations.ServiceOnlyWhenEnabled : Prop :=
  ∀ (s : State) (source : IntSource),
    (∃ cycles t, engineStep s = .next ⟨.serviced source, cycles, t⟩) ↔
      s.fault = none ∧ s.cpu ≠ .stopped ∧ s.ime = true ∧ pendingAndEnabled s = some source

/-- R218: after EI the next step services nothing, whatever is pending; unless the instruction it executes is DI, IME is set
after it, and a source pending and enabled then is serviced by the step after that one, if the core did not stop. -/
def Obligations.EiDelaysOneInstruction : Prop :=
  ∀ s : State, fetchesNow s → s.ime = false → s.eiDelay = false → instrAtPC .ei s →
    ∃ t, engineStep s = .next ⟨.executed, 4, t⟩ ∧ t.ime = false ∧ t.eiDelay = true ∧
      ∀ r, engineStep t = .next r →
        (∀ source, r.kind ≠ .serviced source) ∧
        (r.kind = .executed → ¬instrAtPC .di t →
          r.after.ime = true ∧
          (pendingMask r.after ≠ 0 → r.after.cpu ≠ .stopped →
            ∃ source u, engineStep r.after = .next ⟨.serviced source, 20, u⟩))

/-- R222: the clock cycles of a step, by its outcome. -/
def Obligations.StepClockCycles : Prop :=
  ∀ (s : State) (r : StepReport), engineStep s = .next r →
    match r.kind with
    | .executed => r.cycles = 4 * spentCost (fetchInstr s) s ∧ 4 ≤ r.cycles ∧ r.cycles ≤ 24
    | .serviced _ => r.cycles = 20
    | .halted => r.cycles = 4
    | .stopped => r.cycles = 0
    | .decodeError _ => r.cycles = 0

/-! ## Whole-machine rules over all instructions -/

/-- Every instruction runs at any time, in every state (spec/48_system.md R175, spec/60_exceptions.md R178, R190): exec always
answers a next state, a step of a core without a latched fault always answers one, and no step is ever refused. That an
undefined opcode, and a step that raises DecodeError, answers a next state, the one with the fault latch set, is the model's
reading of R176 beside R177 (log entry 4). -/
def Obligations.EveryInstructionCompletes : Prop :=
  (∀ (i : Instr) (s : State), ∃ t, exec i s = .next t) ∧
  (∀ s : State, s.fault = none → ∃ t, step s = .next t) ∧
  (∀ (s : State) (r : Refusal), step s ≠ .refused r)

/-- R20: an instruction outside the rule's list writes no flag. -/
def Obligations.FlagsWrittenOnlyByListed : Prop :=
  ∀ (i : Instr) (s t : State), exec i s = .next t → ¬writesFlags i → t.f = s.f

/-- R87: an instruction that is no control transfer leaves PC where the generic advance put it, past the instruction. -/
def Obligations.OnlyTransfersMovePC : Prop :=
  ∀ (i : Instr) (s t : State), exec i s = .next t → ¬isTransfer i → t.pc = s.pc

/-- R23, R24, R185, R199: of all instructions only DI and RETI change IME, only DI and EI change ei_delay, only HALT and STOP
change cpu_state, and only an undefined opcode sets the fault latch, in a next state of its own (log entry 4). -/
def Obligations.ControlStateWriters : Prop :=
  ∀ (i : Instr) (s t : State), exec i s = .next t →
    (t.ime ≠ s.ime → (i = .di ∧ t.ime = false) ∨ (i = .reti ∧ t.ime = true)) ∧
    (t.eiDelay ≠ s.eiDelay → (i = .di ∧ t.eiDelay = false) ∨ (i = .ei ∧ t.eiDelay = true)) ∧
    (t.cpu ≠ s.cpu → (i = .halt ∧ t.cpu = .halted) ∨ (∃ pad, i = .stop pad ∧ t.cpu = .stopped)) ∧
    (t.fault ≠ s.fault → ∃ op, i = .undefined op)

/-! ## The timer and the interrupt controller -/

/-- R191, R193: `n` clock cycles advance the divider by `n` modulo 65536 whatever the rest of the state is, and reach nothing
but the divider, TIMA, reload_pending and IF. -/
def Obligations.DividerCountsEveryCycle : Prop :=
  ∀ (n : Nat) (s : State),
    (tick n s).div16 = s.div16 + BitVec.ofNat 16 n ∧
    tick n s = { s with
      div16 := (tick n s).div16
      tima := (tick n s).tima
      reloadPending := (tick n s).reloadPending
      ifl := (tick n s).ifl }

/-- R194, R197: with the timer running and no reload pending, N clock cycles from any divider phase increment TIMA by exactly
one, N by the clock select; with the timer stopped TIMA stays while the divider counts. -/
def Obligations.TimaPeriod : Prop :=
  (∀ s : State, s.tac.getLsbD 2 = true → s.reloadPending = 0 → s.tima ≠ 0xFF →
    let n := match s.tac.extractLsb' 0 2 with
      | 0 => 1024
      | 1 => 16
      | 2 => 64
      | _ => 256
    (tick n s).tima = s.tima + 1 ∧ (tick n s).ifl = s.ifl ∧ (tick n s).reloadPending = 0) ∧
  (∀ (n : Nat) (s : State), s.tac.getLsbD 2 = false → s.reloadPending = 0 →
    (tick n s).tima = s.tima ∧ (tick n s).ifl = s.ifl)

/-- R192, R195: where TIMA is 0xFF and the selected divider bit falls, TIMA reads 0x00 for TIMER_RELOAD_DELAY clock cycles and
then takes TMA, with the Timer request raised in the same cycle and not before. -/
def Obligations.TimaOverflowReloads : Prop :=
  ∀ (s : State) (k : Nat), legalParams s.params = true → s.reloadPending = 0 → s.tac.getLsbD 2 = true → s.tima = 0xFF →
    k = (match s.tac.extractLsb' 0 2 with
      | 0 => 9
      | 1 => 3
      | 2 => 5
      | _ => 7) →
    s.div16.getLsbD k = true → (s.div16 + 1).getLsbD k = false →
    (∀ n, n < s.params.timerReloadDelay → (tick (1 + n) s).tima = 0x00 ∧ (tick (1 + n) s).ifl = s.ifl) ∧
    (tick (1 + s.params.timerReloadDelay) s).tima = s.tma ∧
    (tick (1 + s.params.timerReloadDelay) s).ifl = s.ifl ||| 0b00100#5

/-- R196: writes to the timer's registers, and what the next clock cycles make of them; the last clause is for states that meet
the invariant, where no TIMA increment falls inside the delay window. -/
def Obligations.TimerRegisterWrites : Prop :=
  ∀ (s : State) (v : Byte),
    memWrite s 0xFF04 v = { s with div16 := 0 } ∧
    (s.reloadPending = 0 → (tick 1 (memWrite s 0xFF04 v)).tima = s.tima) ∧
    memWrite s 0xFF07 v = { s with tac := v.extractLsb' 0 3 } ∧
    memWrite s 0xFF05 v = { s with tima := v, reloadPending := 0 } ∧
    (tick 1 (memWrite s 0xFF05 v)).ifl = s.ifl ∧
    memWrite s 0xFF06 v = { s with tma := v } ∧
    (s.Inv → s.reloadPending ≠ 0 → (tick s.reloadPending (memWrite s 0xFF06 v)).tima = v)

/-- R180: a request sets the source's bit of IF and changes nothing else; requests do not count; a write to 0xFF0F sets and
clears the bits too. -/
def Obligations.RequestInterruptSetsOneBit : Prop :=
  ∀ (s : State) (i : IntSource) (v : Byte),
    memWrite s 0xFF0F v = { s with ifl := v.extractLsb' 0 5 } ∧
    requestInterrupt i s = { s with ifl := (requestInterrupt i s).ifl } ∧
    (∀ j : Nat, j < 5 → (requestInterrupt i s).ifl.getLsbD j = (s.ifl.getLsbD j || decide (j = i.bit))) ∧
    requestInterrupt i (requestInterrupt i s) = requestInterrupt i s ∧
    (s.ifl.getLsbD i.bit = true → requestInterrupt i s = s)

/-! ## The host -/

/-- R207, R208: the breakpoint set is ordered and distinct; adding appends an address that is not a member, removing takes the
member at an index and does nothing outside the set; neither touches anything else. -/
def Obligations.BreakpointSetOperations : Prop :=
  (∀ (address : Nat) (s : State),
    hostAct (.addBreakpoint address) s = { s with
      breakpoints := if BitVec.ofNat 16 address ∈ s.breakpoints then s.breakpoints
        else s.breakpoints ++ [BitVec.ofNat 16 address] } ∧
    (s.breakpoints.Nodup → (hostAct (.addBreakpoint address) s).breakpoints.Nodup)) ∧
  (∀ (index : Nat) (s : State),
    hostAct (.removeBreakpoint index) s = { s with
      breakpoints := s.breakpoints.take index ++ s.breakpoints.drop (index + 1) } ∧
    (s.breakpoints.length ≤ index → hostAct (.removeBreakpoint index) s = s))

/-- R206: `runToBreakpoint()` reports a hit only after a step, with PC a member of the set; a DecodeError only with the fault
latched by its last step; a cancellation only with the flag set. And one iteration of the loop: the flag set after the host's
actions answers Cancelled before any step; else one step is made, a latched core's run answers its Fault, a DecodeError is
returned, PC in the breakpoint set answers BreakpointHit, and otherwise the loop goes on. What the host does before each
iteration is an entry of the input list, and the end of the list is no exit: the model's choice (log entry 19). -/
def Obligations.RunToBreakpointExits : Prop :=
  (∀ (inputs : List (List HostAction)) (s t : State) (a : Word), runToBreakpoint inputs s = .breakpointHit a t →
    t.pc = a ∧ a ∈ t.breakpoints ∧ ∃ u, step u = .next t) ∧
  (∀ (inputs : List (List HostAction)) (s t : State) (e : DecodeError), runToBreakpoint inputs s = .decodeError e t →
    t.fault = some e ∧ ∃ u, step u = .next t ∧ u.fault = none) ∧
  (∀ (inputs : List (List HostAction)) (s t : State), runToBreakpoint inputs s = .cancelled t → t.cancelFlag = true) ∧
  (∀ s : State, runToBreakpoint [] s = .running s) ∧
  (∀ (actions : List HostAction) (later : List (List HostAction)) (s : State),
    let s1 := actions.foldl (fun t action => hostAct action t) s
    (s1.cancelFlag = true → runToBreakpoint (actions :: later) s = .cancelled s1) ∧
    (∀ (addr : Word) (byte : Byte), s1.cancelFlag = false → s1.fault = some ⟨addr, byte⟩ →
      runToBreakpoint (actions :: later) s = .fault (.latchedDecodeError addr byte)) ∧
    (s1.cancelFlag = false → s1.fault = none →
      ∃ r, engineStep s1 = .next r ∧
        (∀ e, r.kind = .decodeError e → runToBreakpoint (actions :: later) s = .decodeError e r.after) ∧
        ((∀ e, r.kind ≠ .decodeError e) → r.after.pc ∈ r.after.breakpoints →
          runToBreakpoint (actions :: later) s = .breakpointHit r.after.pc r.after) ∧
        ((∀ e, r.kind ≠ .decodeError e) → r.after.pc ∉ r.after.breakpoints →
          runToBreakpoint (actions :: later) s = runToBreakpoint later r.after)))

/-- R55: ROM[i] is the image's byte i, 0x00 past its end; bytes beyond 32768 are discarded; nothing else changes. -/
def Obligations.LoadRomInstallsImage : Prop :=
  ∀ (image : List Byte) (s : State),
    (∀ addr : Word, addr.toNat ≤ 0x7FFF → memRead (hostAct (.loadROM image) s) addr = image.getD addr.toNat 0x00) ∧
    (∀ addr : Word, 0x7FFF < addr.toNat → memRead (hostAct (.loadROM image) s) addr = memRead s addr) ∧
    hostAct (.loadROM image) s = { s with mem := (hostAct (.loadROM image) s).mem }

/-! ## Loads and stores -/

/-- R90, R91, R92: LD r,r', LD r,d8 and LD r,(HL), with encoding, cost and frame. -/
def Obligations.LoadRegister : Prop :=
  ∀ (dst src : Reg) (v : Byte) (s : State),
    (∃ t, exec (Form.ldRegReg dst src) s = .next t ∧ t.reg dst = s.reg src ∧
      t.f = s.f ∧ t.sp = s.sp ∧ t.pc = s.pc ∧ registerFrame [dst] s t) ∧
    (∃ t, exec (Form.ldRegImm dst v) s = .next t ∧ t.reg dst = v ∧
      t.f = s.f ∧ t.sp = s.sp ∧ t.pc = s.pc ∧ registerFrame [dst] s t) ∧
    (∃ t, exec (Form.ldRegAtHL dst) s = .next t ∧ t.reg dst = memRead s s.hl ∧
      t.f = s.f ∧ t.sp = s.sp ∧ t.pc = s.pc ∧ registerFrame [dst] s t) ∧
    hasEncoding (Form.ldRegReg dst src) [opcodeXYZ 1 (Reg.code dst) (Reg.code src)] 1 ∧
    hasEncoding (Form.ldRegImm dst v) [opcodeXYZ 0 (Reg.code dst) 6, v] 2 ∧
    hasEncoding (Form.ldRegAtHL dst) [opcodeXYZ 1 (Reg.code dst) 6] 2

/-- R93, R94, R97, R98, R100, R102, R104: the instructions that store one byte by MemWrite, with the address each computes. -/
def Obligations.StoreByte : Prop :=
  ∀ (src : Reg) (v : Byte) (w : Word) (s : State),
    (exec (Form.ldAtHLReg src) s = .next (memWrite s s.hl (s.reg src)) ∧
      storeFrame [] [s.hl] s (memWrite s s.hl (s.reg src))) ∧
    (exec (.ld_atHL_d8 v) s = .next (memWrite s s.hl v) ∧ storeFrame [] [s.hl] s (memWrite s s.hl v)) ∧
    (exec .ld_atBC_A s = .next (memWrite s (s.b ++ s.c) s.a) ∧ storeFrame [] [s.b ++ s.c] s (memWrite s (s.b ++ s.c) s.a)) ∧
    (exec .ld_atDE_A s = .next (memWrite s (s.d ++ s.e) s.a) ∧ storeFrame [] [s.d ++ s.e] s (memWrite s (s.d ++ s.e) s.a)) ∧
    (exec (.ld_atA16_A w) s = .next (memWrite s w s.a) ∧ storeFrame [] [w] s (memWrite s w s.a)) ∧
    (exec (.ldh_atA8_A v) s = .next (memWrite s (0xFF#8 ++ v) s.a) ∧
      storeFrame [] [0xFF#8 ++ v] s (memWrite s (0xFF#8 ++ v) s.a)) ∧
    (exec .ld_atC_A s = .next (memWrite s (0xFF#8 ++ s.c) s.a) ∧
      storeFrame [] [0xFF#8 ++ s.c] s (memWrite s (0xFF#8 ++ s.c) s.a)) ∧
    (∀ x, (memWrite s x v).f = s.f ∧ (memWrite s x v).sp = s.sp ∧ (memWrite s x v).pc = s.pc) ∧
    hasEncoding (Form.ldAtHLReg src) [opcodeXYZ 1 6 (Reg.code src)] 2 ∧
    hasEncoding (.ld_atHL_d8 v) [0x36, v] 3 ∧
    hasEncoding .ld_atBC_A [0x02] 2 ∧
    hasEncoding .ld_atDE_A [0x12] 2 ∧
    hasEncoding (.ld_atA16_A w) [0xEA, w.extractLsb' 0 8, w.extractLsb' 8 8] 4 ∧
    hasEncoding (.ldh_atA8_A v) [0xE0, v] 3 ∧
    hasEncoding .ld_atC_A [0xE2] 2

/-- R95, R96, R99, R101, R103: the loads of A from memory. -/
def Obligations.LoadAccumulator : Prop :=
  ∀ (v : Byte) (w : Word) (s : State),
    (∀ (i : Instr) (addr : Word),
      (i = .ld_A_atBC ∧ addr = s.b ++ s.c) ∨ (i = .ld_A_atDE ∧ addr = s.d ++ s.e) ∨ (i = .ld_A_atA16 w ∧ addr = w) ∨
      (i = .ldh_A_atA8 v ∧ addr = 0xFF#8 ++ v) ∨ (i = .ld_A_atC ∧ addr = 0xFF#8 ++ s.c) →
      ∃ t, exec i s = .next t ∧ t.a = memRead s addr ∧ t.f = s.f ∧ t.sp = s.sp ∧ t.pc = s.pc ∧ registerFrame [.a] s t) ∧
    hasEncoding .ld_A_atBC [0x0A] 2 ∧
    hasEncoding .ld_A_atDE [0x1A] 2 ∧
    hasEncoding (.ld_A_atA16 w) [0xFA, w.extractLsb' 0 8, w.extractLsb' 8 8] 4 ∧
    hasEncoding (.ldh_A_atA8 v) [0xF0, v] 3 ∧
    hasEncoding .ld_A_atC [0xF2] 2

/-- R105 to R108: the loads and stores of A through HL, which then moves by one; the access uses the old HL. -/
def Obligations.LoadStoreMovingHL : Prop :=
  ∀ s : State,
    (∀ (i : Instr) (d : Word), (i = .ld_A_atHLI ∧ d = 1) ∨ (i = .ld_A_atHLD ∧ d = -1) →
      ∃ t, exec i s = .next t ∧ t.a = memRead s s.hl ∧ t.hl = s.hl + d ∧
        t.f = s.f ∧ t.sp = s.sp ∧ t.pc = s.pc ∧ registerFrame [.a, .h, .l] s t) ∧
    (∀ (i : Instr) (d : Word), (i = .ld_atHLI_A ∧ d = 1) ∨ (i = .ld_atHLD_A ∧ d = -1) →
      ∃ t, exec i s = .next t ∧ t = { memWrite s s.hl s.a with h := t.h, l := t.l } ∧ t.hl = s.hl + d ∧
        t.f = s.f ∧ t.sp = s.sp ∧ t.pc = s.pc ∧ storeFrame [.h, .l] [s.hl] s t) ∧
    hasEncoding .ld_A_atHLI [0x2A] 2 ∧
    hasEncoding .ld_A_atHLD [0x3A] 2 ∧
    hasEncoding .ld_atHLI_A [0x22] 2 ∧
    hasEncoding .ld_atHLD_A [0x32] 2

/-- R109, R111: LD rr,d16 and LD SP,HL; the halves of a pair are its byte registers, and SP has none (R18). -/
def Obligations.LoadWord : Prop :=
  ∀ (w : Word) (s : State),
    (∀ (p : Pair) (hi lo : Reg), (p = .bc ∧ hi = .b ∧ lo = .c) ∨ (p = .de ∧ hi = .d ∧ lo = .e) ∨ (p = .hl ∧ hi = .h ∧ lo = .l) →
      ∃ t, exec (Form.ldPairImm p w) s = .next t ∧ t.reg hi = w.extractLsb' 8 8 ∧ t.reg lo = w.extractLsb' 0 8 ∧
        t.pair p = w ∧ t.f = s.f ∧ t.sp = s.sp ∧ t.pc = s.pc ∧ registerFrame [hi, lo] s t) ∧
    (∃ t, exec (Form.ldPairImm .sp w) s = .next t ∧ t.sp = w ∧ t.f = s.f ∧ t.pc = s.pc ∧ registerFrame [] s t) ∧
    (∃ t, exec .ld_SP_HL s = .next t ∧ t.sp = s.h ++ s.l ∧ t.f = s.f ∧ t.pc = s.pc ∧ registerFrame [] s t) ∧
    (∀ p, hasEncoding (Form.ldPairImm p w) [opcodeXPQZ 0 (Pair.code p) 0 1, w.extractLsb' 0 8, w.extractLsb' 8 8] 3) ∧
    hasEncoding .ld_SP_HL [0xF9] 2

/-- R110: LD (a16),SP stores the low byte at a16 and the high byte at a16 + 1. -/
def Obligations.StoreStackPointer : Prop :=
  ∀ (w : Word) (s : State),
    let t := memWrite (memWrite s w (s.sp.extractLsb' 0 8)) (w + 1) (s.sp.extractLsb' 8 8)
    exec (.ld_atA16_SP w) s = .next t ∧ t.f = s.f ∧ t.sp = s.sp ∧ t.pc = s.pc ∧ storeFrame [] [w, w + 1] s t ∧
    hasEncoding (.ld_atA16_SP w) [0x08, w.extractLsb' 0 8, w.extractLsb' 8 8] 5

/-- R112, R138: SP plus a signed byte, into HL or SP, with H and C from the unsigned addition of the low byte. -/
def Obligations.StackPointerOffset : Prop :=
  ∀ (e : Byte) (s : State),
    let flags : Flags := ⟨false, false, decide (s.sp.toNat % 16 + e.toNat % 16 > 15), decide (s.sp.toNat % 256 + e.toNat > 255)⟩
    (∃ t, exec (.ld_HL_SPr8 e) s = .next t ∧ t.hl = s.sp + e.signExtend 16 ∧ t.f = flags ∧
      t.sp = s.sp ∧ t.pc = s.pc ∧ registerFrame [.h, .l] s t) ∧
    (∃ t, exec (.add_SP_r8 e) s = .next t ∧ t.sp = s.sp + e.signExtend 16 ∧ t.f = flags ∧
      t.pc = s.pc ∧ registerFrame [] s t) ∧
    hasEncoding (.ld_HL_SPr8 e) [0xF8, e] 3 ∧
    hasEncoding (.add_SP_r8 e) [0xE8, e] 4

/-- R113, R115: PUSH rr stores the high byte at SP - 1, then the low byte at SP - 2, and lowers SP by two. -/
def Obligations.PushPair : Prop :=
  ∀ (p : StackPair) (s : State),
    let v : Word := match p with
      | .bc => s.b ++ s.c
      | .de => s.d ++ s.e
      | .hl => s.h ++ s.l
      | .af => s.a ++ s.f.toByte
    let stored := memWrite (memWrite s (s.sp - 1) (v.extractLsb' 8 8)) (s.sp - 2) (v.extractLsb' 0 8)
    (∃ t, exec (Form.push p) s = .next t ∧ t = { stored with sp := s.sp - 2 } ∧
      t.f = s.f ∧ t.pc = s.pc ∧ storeFrame [] [s.sp - 1, s.sp - 2] s t) ∧
    hasEncoding (Form.push p) [opcodeXPQZ 3 (StackPair.code p) 0 5] 4 ∧
    s.f.toByte.toNat % 16 = 0

/-- R114, R116, R117: POP rr reads the low byte at SP and the high byte at SP + 1 and raises SP by two; POP AF takes the four
flags from bits 7 to 4 of the low byte, and the low nibble of F reads 0. -/
def Obligations.PopPair : Prop :=
  ∀ s : State,
    let lo := memRead s s.sp
    let hi := memRead s (s.sp + 1)
    (∀ (p : StackPair) (rh rl : Reg), (p = .bc ∧ rh = .b ∧ rl = .c) ∨ (p = .de ∧ rh = .d ∧ rl = .e) ∨
        (p = .hl ∧ rh = .h ∧ rl = .l) →
      ∃ t, exec (Form.pop p) s = .next t ∧ t.reg rh = hi ∧ t.reg rl = lo ∧ t.f = s.f ∧ t.sp = s.sp + 2 ∧ t.pc = s.pc ∧
        registerFrame [rh, rl] s t) ∧
    (∃ t, exec (Form.pop .af) s = .next t ∧ t.a = hi ∧
      t.f = ⟨lo.getLsbD 7, lo.getLsbD 6, lo.getLsbD 5, lo.getLsbD 4⟩ ∧ t.f.toByte = lo &&& 0xF0 ∧
      t.sp = s.sp + 2 ∧ t.pc = s.pc ∧ registerFrame [.a] s t) ∧
    (∀ p, hasEncoding (Form.pop p) [opcodeXPQZ 3 (StackPair.code p) 0 1] 3)

/-! ## Arithmetic and logic -/

/-- The encodings and costs of the ALU group are R118's, and its operations R119 to R122 and R126: ADD, ADC, SUB, SBC and CP
on a register, the byte at HL or an immediate; carry, borrow and half-carry from the exact values. -/
def Obligations.AluArithmetic : Prop :=
  (∀ (i : Instr) (v : Byte) (s : State), aluForm .add i v s →
    ∃ t, exec i s = .next t ∧ t.a = s.a + v ∧
      t.f = ⟨decide (s.a + v = 0), false, decide (s.a.toNat % 16 + v.toNat % 16 > 0xF), decide (s.a.toNat + v.toNat > 0xFF)⟩ ∧
      t.sp = s.sp ∧ t.pc = s.pc ∧ registerFrame [.a] s t) ∧
  (∀ (i : Instr) (v : Byte) (s : State) (c : Nat), aluForm .adc i v s → c = s.f.c.toNat →
    ∃ t, exec i s = .next t ∧ t.a.toNat = (s.a.toNat + v.toNat + c) % 256 ∧
      t.f = ⟨decide (t.a = 0), false, decide (s.a.toNat % 16 + v.toNat % 16 + c > 0xF), decide (s.a.toNat + v.toNat + c > 0xFF)⟩ ∧
      t.sp = s.sp ∧ t.pc = s.pc ∧ registerFrame [.a] s t) ∧
  (∀ (i : Instr) (v : Byte) (s : State), aluForm .sub i v s →
    ∃ t, exec i s = .next t ∧ t.a = s.a - v ∧
      t.f = ⟨decide (s.a = v), true, decide (s.a.toNat % 16 < v.toNat % 16), decide (s.a.toNat < v.toNat)⟩ ∧
      t.sp = s.sp ∧ t.pc = s.pc ∧ registerFrame [.a] s t) ∧
  (∀ (i : Instr) (v : Byte) (s : State) (c : Nat), aluForm .sbc i v s → c = s.f.c.toNat →
    ∃ t, exec i s = .next t ∧ (t.a.toNat : Int) = ((s.a.toNat : Int) - v.toNat - c) % 256 ∧
      t.f = ⟨decide (t.a = 0), true, decide (s.a.toNat % 16 < v.toNat % 16 + c), decide (s.a.toNat < v.toNat + c)⟩ ∧
      t.sp = s.sp ∧ t.pc = s.pc ∧ registerFrame [.a] s t) ∧
  (∀ (i : Instr) (v : Byte) (s : State), aluForm .cp i v s →
    ∃ t, exec i s = .next t ∧
      t.f = ⟨decide (s.a = v), true, decide (s.a.toNat % 16 < v.toNat % 16), decide (s.a.toNat < v.toNat)⟩ ∧
      t.sp = s.sp ∧ t.pc = s.pc ∧ registerFrame [] s t) ∧
  (∀ (op : AluOp) (o : Operand8) (v : Byte),
    hasEncoding (Form.alu op o) [opcodeXYZ 2 (AluOp.code op) (Operand8.code o)] (if o = .atHL then 2 else 1) ∧
    hasEncoding (Form.aluImm op v) [opcodeXYZ 3 (AluOp.code op) 6, v] 2)

/-- R123, R124, R125: AND, XOR and OR, bit by bit; Z from the result, N and C 0, H 1 for AND and 0 for the others. -/
def Obligations.AluLogic : Prop :=
  ∀ (op : AluOp) (i : Instr) (v : Byte) (s : State), aluForm op i v s → op = .and ∨ op = .xor ∨ op = .or →
    ∃ t, exec i s = .next t ∧
      (∀ k < 8, t.a.getLsbD k = match op with
        | .and => s.a.getLsbD k && v.getLsbD k
        | .xor => s.a.getLsbD k != v.getLsbD k
        | _ => s.a.getLsbD k || v.getLsbD k) ∧
      t.f = ⟨decide (t.a = 0), false, decide (op = .and), false⟩ ∧
      t.sp = s.sp ∧ t.pc = s.pc ∧ registerFrame [.a] s t

/-- R127 to R130: INC and DEC of a register or of the byte at HL; C untouched; the flags come from the computed value even where
the write is dropped. -/
def Obligations.IncrementDecrementByte : Prop :=
  ∀ (o : Operand8) (s : State),
    let old := readOperand o s
    (∃ t, exec (Form.inc o) s = .next t ∧ wroteOperand o (old + 1) s t ∧
      t.f = ⟨decide (old = 0xFF), false, decide (old.toNat % 16 = 0xF), s.f.c⟩ ∧ t.sp = s.sp ∧ t.pc = s.pc) ∧
    (∃ t, exec (Form.dec o) s = .next t ∧ wroteOperand o (old - 1) s t ∧
      t.f = ⟨decide (old = 0x01), true, decide (old.toNat % 16 = 0x0), s.f.c⟩ ∧ t.sp = s.sp ∧ t.pc = s.pc) ∧
    hasEncoding (Form.inc o) [opcodeXYZ 0 (Operand8.code o) 4] (if o = .atHL then 3 else 1) ∧
    hasEncoding (Form.dec o) [opcodeXYZ 0 (Operand8.code o) 5] (if o = .atHL then 3 else 1)

/-- R131 to R134: DAA, CPL, SCF and CCF. -/
def Obligations.AccumulatorAndFlagOps : Prop :=
  ∀ s : State,
    (∃ t, exec .daa s = .next t ∧
      (s.f.n = false →
        let high := s.f.c = true ∨ s.a.toNat > 0x99
        let low := s.f.h = true ∨ s.a.toNat % 16 > 0x9
        t.a.toNat = (s.a.toNat + (if high then 0x60 else 0) + (if low then 0x06 else 0)) % 256 ∧
        t.f = ⟨decide (t.a = 0), false, false, decide high⟩) ∧
      (s.f.n = true →
        (t.a.toNat : Int) = ((s.a.toNat : Int) - (if s.f.c then 0x60 else 0) - (if s.f.h then 0x06 else 0)) % 256 ∧
        t.f = ⟨decide (t.a = 0), true, false, s.f.c⟩) ∧
      t.sp = s.sp ∧ t.pc = s.pc ∧ registerFrame [.a] s t) ∧
    (∃ t, exec .cpl s = .next t ∧ (∀ k < 8, t.a.getLsbD k = !s.a.getLsbD k) ∧ t.f = ⟨s.f.z, true, true, s.f.c⟩ ∧
      t.sp = s.sp ∧ t.pc = s.pc ∧ registerFrame [.a] s t) ∧
    (∃ t, exec .scf s = .next t ∧ t.f = ⟨s.f.z, false, false, true⟩ ∧
      t.sp = s.sp ∧ t.pc = s.pc ∧ registerFrame [] s t) ∧
    (∃ t, exec .ccf s = .next t ∧ t.f = ⟨s.f.z, false, false, !s.f.c⟩ ∧
      t.sp = s.sp ∧ t.pc = s.pc ∧ registerFrame [] s t) ∧
    hasEncoding .daa [0x27] 1 ∧ hasEncoding .cpl [0x2F] 1 ∧ hasEncoding .scf [0x37] 1 ∧ hasEncoding .ccf [0x3F] 1

/-- DAA does what it is for (R119, R121, R131): after ADD or SUB of two BCD numbers it leaves the decimal result, with C the
decimal carry or borrow. -/
def Obligations.DaaCorrectsDecimalArithmetic : Prop :=
  ∀ (x y : Nat) (v : Byte) (i : Instr) (s : State), x < 100 → y < 100 → s.a = bcd x → v = bcd y →
    (aluForm .add i v s → ∃ t u, exec i s = .next t ∧ exec .daa t = .next u ∧
      u.a = bcd ((x + y) % 100) ∧ u.f.c = decide (x + y ≥ 100) ∧ u.f.n = false) ∧
    (aluForm .sub i v s → ∃ t u, exec i s = .next t ∧ exec .daa t = .next u ∧
      u.a = bcd ((x + 100 - y) % 100) ∧ u.f.c = decide (x < y) ∧ u.f.n = true)

/-- R135, R136, R137: ADD HL,rr, INC rr and DEC rr, with Z untouched by the first and no flag by the others. -/
def Obligations.WordArithmetic : Prop :=
  ∀ (p : Pair) (s : State),
    let half : List Reg := match p with
      | .bc => [.b, .c]
      | .de => [.d, .e]
      | .hl => [.h, .l]
      | .sp => []
    (∃ t, exec (Form.addHL p) s = .next t ∧ t.hl = s.hl + s.pair p ∧
      t.f = ⟨s.f.z, false, decide (s.hl.toNat % 0x1000 + (s.pair p).toNat % 0x1000 > 0xFFF),
        decide (s.hl.toNat + (s.pair p).toNat > 0xFFFF)⟩ ∧
      t.sp = s.sp ∧ t.pc = s.pc ∧ registerFrame [.h, .l] s t) ∧
    (∃ t, exec (Form.incPair p) s = .next t ∧ t.pair p = s.pair p + 1 ∧ t.f = s.f ∧ (p ≠ .sp → t.sp = s.sp) ∧
      t.pc = s.pc ∧ registerFrame half s t) ∧
    (∃ t, exec (Form.decPair p) s = .next t ∧ t.pair p = s.pair p - 1 ∧ t.f = s.f ∧ (p ≠ .sp → t.sp = s.sp) ∧
      t.pc = s.pc ∧ registerFrame half s t) ∧
    hasEncoding (Form.addHL p) [opcodeXPQZ 0 (Pair.code p) 1 1] 2 ∧
    hasEncoding (Form.incPair p) [opcodeXPQZ 0 (Pair.code p) 0 3] 2 ∧
    hasEncoding (Form.decPair p) [opcodeXPQZ 0 (Pair.code p) 1 3] 2

/-! ## Rotates, shifts and bits -/

/-- R140 to R143: the plain accumulator rotates; Z always cleared, C the bit shifted out. -/
def Obligations.RotateAccumulator : Prop :=
  ∀ s : State,
    (∃ t, exec .rlca s = .next t ∧ t.a = s.a.rotateLeft 1 ∧ t.f = ⟨false, false, false, s.a.getLsbD 7⟩ ∧
      t.sp = s.sp ∧ t.pc = s.pc ∧ registerFrame [.a] s t) ∧
    (∃ t, exec .rrca s = .next t ∧ t.a = s.a.rotateRight 1 ∧ t.f = ⟨false, false, false, s.a.getLsbD 0⟩ ∧
      t.sp = s.sp ∧ t.pc = s.pc ∧ registerFrame [.a] s t) ∧
    (∃ t, exec .rla s = .next t ∧ t.a.toNat = (s.a.toNat * 2 + s.f.c.toNat) % 256 ∧
      t.f = ⟨false, false, false, s.a.getLsbD 7⟩ ∧ t.sp = s.sp ∧ t.pc = s.pc ∧ registerFrame [.a] s t) ∧
    (∃ t, exec .rra s = .next t ∧ t.a.toNat = s.a.toNat / 2 + 128 * s.f.c.toNat ∧
      t.f = ⟨false, false, false, s.a.getLsbD 0⟩ ∧ t.sp = s.sp ∧ t.pc = s.pc ∧ registerFrame [.a] s t) ∧
    hasEncoding .rlca [0x07] 1 ∧ hasEncoding .rrca [0x0F] 1 ∧ hasEncoding .rla [0x17] 1 ∧ hasEncoding .rra [0x1F] 1

/-- R144 to R152: the 0xCB rotates and shifts of a register or of the byte at HL; Z from the result, N and H 0, C the bit
shifted out, 0 for SWAP. -/
def Obligations.RotateShiftOperand : Prop :=
  ∀ (op : ShiftOp) (o : Operand8) (s : State),
    let v := readOperand o s
    let result : Byte := match op with
      | .rlc => v.rotateLeft 1
      | .rrc => v.rotateRight 1
      | .rl => BitVec.ofNat 8 (v.toNat * 2 + s.f.c.toNat)
      | .rr => BitVec.ofNat 8 (v.toNat / 2 + 128 * s.f.c.toNat)
      | .sla => BitVec.ofNat 8 (v.toNat * 2)
      | .sra => v.sshiftRight 1
      | .swap => v.rotateLeft 4
      | .srl => BitVec.ofNat 8 (v.toNat / 2)
    let carry : Bool := match op with
      | .rlc => v.getLsbD 7
      | .rl => v.getLsbD 7
      | .sla => v.getLsbD 7
      | .swap => false
      | _ => v.getLsbD 0
    (∃ t, exec (Form.shift op o) s = .next t ∧ wroteOperand o result s t ∧
      t.f = ⟨decide (result = 0), false, false, carry⟩ ∧ t.sp = s.sp ∧ t.pc = s.pc) ∧
    hasEncoding (Form.shift op o) [0xCB, opcodeXYZ 0 (ShiftOp.code op) (Operand8.code o)] (if o = .atHL then 4 else 2)

/-- R153: BIT b,r sets Z to the complement of the bit, N 0, H 1, leaves C, and writes nothing. -/
def Obligations.TestBit : Prop :=
  ∀ (b : Fin 8) (o : Operand8) (s : State),
    (∃ t, exec (Form.bit b o) s = .next t ∧ t.f = ⟨!(readOperand o s).getLsbD b, false, true, s.f.c⟩ ∧
      t.sp = s.sp ∧ t.pc = s.pc ∧ registerFrame [] s t) ∧
    hasEncoding (Form.bit b o) [0xCB, opcodeXYZ 1 (BitVec.ofNat 3 b) (Operand8.code o)] (if o = .atHL then 3 else 2)

/-- R154, R155: RES b,r and SET b,r write the operand with bit b cleared or set and every other bit kept, and no flag. -/
def Obligations.ResetAndSetBit : Prop :=
  ∀ (b : Fin 8) (o : Operand8) (s : State),
    (∃ t v, exec (Form.res b o) s = .next t ∧ wroteOperand o v s t ∧
      (∀ k < 8, v.getLsbD k = ((readOperand o s).getLsbD k && decide (k ≠ b.val))) ∧
      t.f = s.f ∧ t.sp = s.sp ∧ t.pc = s.pc) ∧
    (∃ t v, exec (Form.set b o) s = .next t ∧ wroteOperand o v s t ∧
      (∀ k < 8, v.getLsbD k = ((readOperand o s).getLsbD k || decide (k = b.val))) ∧
      t.f = s.f ∧ t.sp = s.sp ∧ t.pc = s.pc) ∧
    hasEncoding (Form.res b o) [0xCB, opcodeXYZ 2 (BitVec.ofNat 3 b) (Operand8.code o)] (if o = .atHL then 4 else 2) ∧
    hasEncoding (Form.set b o) [0xCB, opcodeXYZ 3 (BitVec.ofNat 3 b) (Operand8.code o)] (if o = .atHL then 4 else 2)

/-! ## Control transfer -/

/-- R156 to R161: JP, JP HL and JR, and the conditional forms, which do nothing where the condition fails. PC in exec's state
is the address after the instruction (R86). -/
def Obligations.Jumps : Prop :=
  ∀ (cc : Cond) (w : Word) (e : Byte) (s : State),
    let holds : Bool := match cc with
      | .nz => !s.f.z
      | .z => s.f.z
      | .nc => !s.f.c
      | .c => s.f.c
    (∀ (i : Instr) (target : Word),
      (i = .jp_a16 w ∧ target = w) ∨ (i = .jp_HL ∧ target = s.h ++ s.l) ∨ (i = .jr_r8 e ∧ target = s.pc + e.signExtend 16) ∨
      (i = Form.jpCond cc w ∧ target = if holds then w else s.pc) ∨
      (i = Form.jrCond cc e ∧ target = if holds then s.pc + e.signExtend 16 else s.pc) →
      ∃ t, exec i s = .next t ∧ t.pc = target ∧ t.f = s.f ∧ t.sp = s.sp ∧ registerFrame [] s t) ∧
    hasEncoding (.jp_a16 w) [0xC3, w.extractLsb' 0 8, w.extractLsb' 8 8] 4 ∧
    hasEncoding .jp_HL [0xE9] 1 ∧
    hasEncoding (.jr_r8 e) [0x18, e] 3 ∧
    hasCondEncoding (Form.jpCond cc w) cc [0b11#2 ++ 0b0#1 ++ Cond.code cc ++ 0b010#3, w.extractLsb' 0 8, w.extractLsb' 8 8] 4 3 ∧
    hasCondEncoding (Form.jrCond cc e) cc [0b00#2 ++ 0b1#1 ++ Cond.code cc ++ 0b000#3, e] 3 2

/-- R162, R163, R167: CALL, CALL cc and RST push the address after the instruction and go to their target; a CALL cc whose
condition fails changes nothing. -/
def Obligations.Calls : Prop :=
  ∀ (cc : Cond) (n : Fin 8) (w : Word) (s : State),
    let stored := memWrite (memWrite s (s.sp - 1) (s.pc.extractLsb' 8 8)) (s.sp - 2) (s.pc.extractLsb' 0 8)
    (∀ (i : Instr) (target : Word),
      (i = .call_a16 w ∧ target = w) ∨ (i = Form.rst n ∧ target = BitVec.ofNat 16 (8 * n)) ∨
      (i = Form.callCond cc w ∧ s.cond cc = true ∧ target = w) →
      ∃ t, exec i s = .next t ∧ t = { stored with sp := s.sp - 2, pc := target } ∧ t.f = s.f ∧
        storeFrame [] [s.sp - 1, s.sp - 2] s t) ∧
    (s.cond cc = false → exec (Form.callCond cc w) s = .next s) ∧
    hasEncoding (.call_a16 w) [0xCD, w.extractLsb' 0 8, w.extractLsb' 8 8] 6 ∧
    hasEncoding (Form.rst n) [opcodeXYZ 3 (BitVec.ofNat 3 n) 7] 4 ∧
    hasCondEncoding (Form.callCond cc w) cc
      [0b11#2 ++ 0b0#1 ++ Cond.code cc ++ 0b100#3, w.extractLsb' 0 8, w.extractLsb' 8 8] 6 3

/-- R164, R165, R166: RET, RET cc and RETI pop PC; RETI sets IME at once and leaves ei_delay; a RET cc whose condition fails
changes nothing. -/
def Obligations.Returns : Prop :=
  ∀ (cc : Cond) (s : State),
    let target : Word := memRead s (s.sp + 1) ++ memRead s s.sp
    (∀ i : Instr, i = .ret ∨ (i = Form.retCond cc ∧ s.cond cc = true) →
      ∃ t, exec i s = .next t ∧ t.pc = target ∧ t.sp = s.sp + 2 ∧ t.f = s.f ∧ registerFrame [] s t) ∧
    (∃ t, exec .reti s = .next t ∧ t.pc = target ∧ t.sp = s.sp + 2 ∧ t.ime = true ∧ t.f = s.f ∧
      registerFrame [] s { t with ime := s.ime }) ∧
    (s.cond cc = false → exec (Form.retCond cc) s = .next s) ∧
    hasEncoding .ret [0xC9] 4 ∧
    hasEncoding .reti [0xD9] 4 ∧
    hasCondEncoding (Form.retCond cc) cc [0b11#2 ++ 0b0#1 ++ Cond.code cc ++ 0b000#3] 5 2

/-- A return undoes a call, and POP undoes PUSH, where the two stack bytes are WRAM or HRAM (R113, R114, R162, R164). -/
def Obligations.StackRoundTrip : Prop :=
  ∀ (s t : State) (w : Word),
    (0xC002 ≤ s.sp.toNat ∧ s.sp.toNat ≤ 0xE000) ∨ (0xFF82 ≤ s.sp.toNat ∧ s.sp.toNat ≤ 0xFFFF) →
    (exec (.call_a16 w) s = .next t → ∃ u, exec .ret t = .next u ∧ u.pc = s.pc ∧ u.sp = s.sp) ∧
    (∀ p : StackPair, exec (Form.push p) s = .next t → ∃ u, exec (Form.pop p) t = .next u ∧ u.sp = s.sp ∧
      u.f = s.f ∧ (∀ r, u.reg r = s.reg r))

/-! ## System instructions -/

/-- R169 to R172: NOP, HALT, STOP (whatever its second byte; its own cycles are ticked after the divider is cleared), DI,
and what EI itself does (R173). -/
def Obligations.SystemInstructions : Prop :=
  ∀ (pad : Byte) (s : State),
    exec .nop s = .next s ∧
    (∃ t, exec .halt s = .next t ∧ t = { s with cpu := .halted } ∧ nothingStored s t) ∧
    (∃ t, exec (.stop pad) s = .next t ∧ t = { s with cpu := .stopped, div16 := 0 } ∧
      (tick (4 * spentCost (.stop pad) s) t).div16 = 4 ∧ ∀ addr, addr ≠ 0xFF04 → memRead t addr = memRead s addr) ∧
    (∃ t, exec .di s = .next t ∧ t = { s with ime := false, eiDelay := false } ∧ nothingStored s t) ∧
    (∃ t, exec .ei s = .next t ∧ t = { s with eiDelay := true } ∧ nothingStored s t) ∧
    hasEncoding .nop [0x00] 1 ∧ hasEncoding .halt [0x76] 1 ∧ hasEncoding (.stop pad) [0x10, pad] 1 ∧
    hasEncoding .di [0xF3] 1 ∧ hasEncoding .ei [0xFB] 1
end

