-- ==== Sys2Proof/Laws/Memory.lean ====
section
/-! SUPPORT. The laws of stored bytes: read after write, and the canonical form every operation keeps. -/

namespace Sys2Proof.Machine

/-! ## Reading -/

theorem Memory.read_insert_same (a : Nat) (v : Byte) (m : List Host.Cell) (h : ∀ c ∈ m, c.1 ≠ a) :
    Memory.read (Memory.insert a v m) a = v := by
  induction m with
  | nil => simp [Memory.insert, Memory.read]
  | cons c rest ih =>
    unfold Memory.insert
    split
    · simp [Memory.read]
    · rw [Memory.read, if_neg (h c (by simp)), ih fun x hx => h x (by simp [hx])]

theorem Memory.read_insert_other {a b : Nat} (v : Byte) (m : List Host.Cell) (hne : b ≠ a) :
    Memory.read (Memory.insert a v m) b = Memory.read m b := by
  induction m with
  | nil => simp [Memory.insert, Memory.read, Ne.symm hne, Memory.unlisted]
  | cons c rest ih =>
    unfold Memory.insert
    split
    · rw [Memory.read, if_neg (by exact Ne.symm hne)]
    · rw [Memory.read, Memory.read, ih]

theorem Memory.read_filter (p : Host.Cell → Bool) (m : List Host.Cell) (a : Nat) (h : ∀ v, p (a, v) = true) :
    Memory.read (m.filter p) a = Memory.read m a := by
  induction m with
  | nil => rfl
  | cons c rest ih =>
    obtain ⟨k, w⟩ := c
    by_cases hk : k = a
    · subst hk
      simp [List.filter, h, Memory.read]
    · rw [Memory.read, if_neg hk, List.filter]
      split
      · rw [Memory.read, if_neg hk, ih]
      · exact ih

theorem Memory.read_filter_none (p : Host.Cell → Bool) (m : List Host.Cell) (a : Nat) (h : ∀ v, p (a, v) = false) :
    Memory.read (m.filter p) a = Memory.unlisted a := by
  induction m with
  | nil => rfl
  | cons c rest ih =>
    obtain ⟨k, w⟩ := c
    rw [List.filter]
    split
    · rename_i hp
      have hk : k ≠ a := by
        intro hk
        simp [hk, h] at hp
      rw [Memory.read, if_neg hk, ih]
    · exact ih

/-- A read after a write to the same address gives the byte written. -/
@[simp] theorem Memory.read_write_same (m : List Host.Cell) (a : Nat) (v : Byte) :
    Memory.read (Memory.write m a v) a = v := by
  unfold Memory.write
  split
  · rename_i hv
    rw [Memory.erase, Memory.read_filter_none _ _ _ (by simp), hv]
  · apply Memory.read_insert_same
    simp [Memory.erase]

/-- A write leaves every other address alone. -/
theorem Memory.read_write_other (m : List Host.Cell) {a b : Nat} (v : Byte) (h : b ≠ a) :
    Memory.read (Memory.write m a v) b = Memory.read m b := by
  have he : Memory.read (Memory.erase a m) b = Memory.read m b := Memory.read_filter _ _ _ (by simp [h])
  unfold Memory.write
  split
  · exact he
  · rw [Memory.read_insert_other _ _ h, he]

theorem Memory.read_append (m₁ m₂ : List Host.Cell) (a : Nat) :
    Memory.read (m₁ ++ m₂) a = if (m₁.any fun c => c.1 == a) then Memory.read m₁ a else Memory.read m₂ a := by
  induction m₁ with
  | nil => simp
  | cons c rest ih =>
    by_cases hc : c.1 = a <;> simp [Memory.read, hc, ih]

/-! ## The canonical form -/

theorem Memory.risingFrom_mono {low low' : Nat} (hle : low' ≤ low) (m : List Host.Cell)
    (h : Memory.risingFrom low m = true) : Memory.risingFrom low' m = true := by
  cases m with
  | nil => rfl
  | cons c rest =>
    simp only [Memory.risingFrom, Bool.and_eq_true, decide_eq_true_eq] at h ⊢
    exact ⟨hle.trans h.1, h.2⟩

theorem Memory.risingFrom_filter (p : Host.Cell → Bool) (low : Nat) (m : List Host.Cell)
    (h : Memory.risingFrom low m = true) : Memory.risingFrom low (m.filter p) = true := by
  induction m generalizing low with
  | nil => rfl
  | cons c rest ih =>
    simp only [Memory.risingFrom, Bool.and_eq_true, decide_eq_true_eq] at h
    rw [List.filter]
    split
    · simp only [Memory.risingFrom, Bool.and_eq_true, decide_eq_true_eq]
      exact ⟨h.1, ih _ h.2⟩
    · exact Memory.risingFrom_mono (by omega) _ (ih _ h.2)

theorem Memory.risingFrom_insert {low a : Nat} (hlow : low ≤ a) (v : Byte) (m : List Host.Cell)
    (hne : ∀ c ∈ m, c.1 ≠ a) (h : Memory.risingFrom low m = true) :
    Memory.risingFrom low (Memory.insert a v m) = true := by
  induction m generalizing low with
  | nil => simp [Memory.insert, Memory.risingFrom, hlow]
  | cons c rest ih =>
    simp only [Memory.risingFrom, Bool.and_eq_true, decide_eq_true_eq] at h
    unfold Memory.insert
    split
    · simp only [Memory.risingFrom, Bool.and_eq_true, decide_eq_true_eq]
      exact ⟨hlow, by omega, h.2⟩
    · have := hne c (by simp)
      simp only [Memory.risingFrom, Bool.and_eq_true, decide_eq_true_eq]
      exact ⟨h.1, ih (by omega) (fun x hx => hne x (by simp [hx])) h.2⟩

theorem Memory.mem_insert {a : Nat} {v : Byte} {m : List Host.Cell} {c : Host.Cell} (h : c ∈ Memory.insert a v m) :
    c = (a, v) ∨ c ∈ m := by
  induction m with
  | nil => simpa [Memory.insert] using h
  | cons x rest ih =>
    unfold Memory.insert at h
    split at h
    · simpa using h
    · rcases List.mem_cons.1 h with h | h
      · simp [h]
      · rcases ih h with h | h <;> simp [h]

/-- A cell after a write is the one written, or one that was there. -/
theorem Memory.mem_write {m : List Host.Cell} {a : Nat} {v : Byte} {c : Host.Cell} (h : c ∈ Memory.write m a v) :
    c = (a, v) ∨ c ∈ m := by
  unfold Memory.write at h
  split at h
  · exact .inr (List.mem_filter.1 h).1
  · rcases Memory.mem_insert h with h | h
    · exact .inl h
    · exact .inr (List.mem_filter.1 h).1

theorem Memory.wf_iff (m : List Host.Cell) :
    Memory.wf m = true ↔ Memory.risingFrom 0 m = true ∧ ∀ c ∈ m, c.2 ≠ Memory.unlisted c.1 := by
  simp [Memory.wf]

theorem Memory.wf_filter (p : Host.Cell → Bool) {m : List Host.Cell} (h : Memory.wf m = true) :
    Memory.wf (m.filter p) = true := by
  rw [Memory.wf_iff] at h ⊢
  exact ⟨Memory.risingFrom_filter _ _ _ h.1, fun c hc => h.2 c (List.mem_filter.1 hc).1⟩

/-- A write keeps the canonical form. -/
theorem Memory.wf_write {m : List Host.Cell} (a : Nat) (v : Byte) (h : Memory.wf m = true) :
    Memory.wf (Memory.write m a v) = true := by
  unfold Memory.write
  split
  · exact Memory.wf_filter _ h
  · rename_i hv
    have he := Memory.wf_filter (fun c => c.1 != a) h
    rw [Memory.wf_iff] at he ⊢
    refine ⟨Memory.risingFrom_insert (Nat.zero_le a) _ _ (by simp [Memory.erase]) he.1, fun c hc => ?_⟩
    rcases Memory.mem_insert hc with rfl | hc
    · exact hv
    · exact he.2 c hc

/-- Cells below an address followed by cells from that address on rise. -/
theorem Memory.risingFrom_append {low k : Nat} {m₁ m₂ : List Host.Cell} (h₁ : Memory.risingFrom low m₁ = true)
    (hb : ∀ c ∈ m₁, c.1 < k) (h₂ : Memory.risingFrom k m₂ = true) (hlow : low ≤ k) :
    Memory.risingFrom low (m₁ ++ m₂) = true := by
  induction m₁ generalizing low with
  | nil => exact Memory.risingFrom_mono hlow _ h₂
  | cons c rest ih =>
    simp only [Memory.risingFrom, Bool.and_eq_true, decide_eq_true_eq, List.cons_append] at h₁ ⊢
    have := hb c (by simp)
    exact ⟨h₁.1, ih h₁.2 (fun x hx => hb x (by simp [hx])) (by omega)⟩

/-- Raising the bound of a rising list whose addresses all reach it. -/
theorem Memory.risingFrom_of_forall {low k : Nat} {m : List Host.Cell} (h : Memory.risingFrom low m = true)
    (hb : ∀ c ∈ m, k ≤ c.1) : Memory.risingFrom k m = true := by
  cases m with
  | nil => rfl
  | cons c rest =>
    simp only [Memory.risingFrom, Bool.and_eq_true, decide_eq_true_eq] at h ⊢
    exact ⟨hb c (by simp), h.2⟩

end Sys2Proof.Machine
end

