-- ==== Sys2Proof/Laws/State.lean ====
section
/-! SUPPORT. One lemma per field per named update of State: what the update leaves alone and what it sets. -/

-- The many small theorems of this file are elaborated one after another.
set_option Elab.async false

namespace Sys2Proof.Machine

/-! ## setReg -/

@[simp] theorem setReg_f (s : State) (r : Reg) (v : Byte) :
    (s.setReg r v).f = s.f := by cases r <;> rfl

@[simp] theorem setReg_sp (s : State) (r : Reg) (v : Byte) :
    (s.setReg r v).sp = s.sp := by cases r <;> rfl

@[simp] theorem setReg_pc (s : State) (r : Reg) (v : Byte) :
    (s.setReg r v).pc = s.pc := by cases r <;> rfl

@[simp] theorem setReg_ime (s : State) (r : Reg) (v : Byte) :
    (s.setReg r v).ime = s.ime := by cases r <;> rfl

@[simp] theorem setReg_eiDelay (s : State) (r : Reg) (v : Byte) :
    (s.setReg r v).eiDelay = s.eiDelay := by cases r <;> rfl

@[simp] theorem setReg_cpu (s : State) (r : Reg) (v : Byte) :
    (s.setReg r v).cpu = s.cpu := by cases r <;> rfl

@[simp] theorem setReg_fault (s : State) (r : Reg) (v : Byte) :
    (s.setReg r v).fault = s.fault := by cases r <;> rfl

@[simp] theorem setReg_ie (s : State) (r : Reg) (v : Byte) :
    (s.setReg r v).ie = s.ie := by cases r <;> rfl

@[simp] theorem setReg_ifl (s : State) (r : Reg) (v : Byte) :
    (s.setReg r v).ifl = s.ifl := by cases r <;> rfl

@[simp] theorem setReg_div16 (s : State) (r : Reg) (v : Byte) :
    (s.setReg r v).div16 = s.div16 := by cases r <;> rfl

@[simp] theorem setReg_tima (s : State) (r : Reg) (v : Byte) :
    (s.setReg r v).tima = s.tima := by cases r <;> rfl

@[simp] theorem setReg_tma (s : State) (r : Reg) (v : Byte) :
    (s.setReg r v).tma = s.tma := by cases r <;> rfl

@[simp] theorem setReg_tac (s : State) (r : Reg) (v : Byte) :
    (s.setReg r v).tac = s.tac := by cases r <;> rfl

@[simp] theorem setReg_reloadPending (s : State) (r : Reg) (v : Byte) :
    (s.setReg r v).reloadPending = s.reloadPending := by cases r <;> rfl

@[simp] theorem setReg_mem (s : State) (r : Reg) (v : Byte) :
    (s.setReg r v).mem = s.mem := by cases r <;> rfl

@[simp] theorem setReg_hookTrace (s : State) (r : Reg) (v : Byte) :
    (s.setReg r v).hookTrace = s.hookTrace := by cases r <;> rfl

@[simp] theorem setReg_breakpoints (s : State) (r : Reg) (v : Byte) :
    (s.setReg r v).breakpoints = s.breakpoints := by cases r <;> rfl

@[simp] theorem setReg_cancelFlag (s : State) (r : Reg) (v : Byte) :
    (s.setReg r v).cancelFlag = s.cancelFlag := by cases r <;> rfl

@[simp] theorem setReg_params (s : State) (r : Reg) (v : Byte) :
    (s.setReg r v).params = s.params := by cases r <;> rfl

@[simp] theorem reg_setReg_same (s : State) (r : Reg) (v : Byte) :
    (s.setReg r v).reg r = v := by cases r <;> rfl

theorem reg_setReg_other (s : State) {r q : Reg} (v : Byte) (h : q ≠ r) : (s.setReg r v).reg q = s.reg q := by
  cases r <;> cases q <;> first | rfl | exact absurd rfl h

/-! ## setHL -/

@[simp] theorem setHL_a (s : State) (v : Word) :
    (s.setHL v).a = s.a := rfl

@[simp] theorem setHL_b (s : State) (v : Word) :
    (s.setHL v).b = s.b := rfl

@[simp] theorem setHL_c (s : State) (v : Word) :
    (s.setHL v).c = s.c := rfl

@[simp] theorem setHL_d (s : State) (v : Word) :
    (s.setHL v).d = s.d := rfl

@[simp] theorem setHL_e (s : State) (v : Word) :
    (s.setHL v).e = s.e := rfl

@[simp] theorem setHL_f (s : State) (v : Word) :
    (s.setHL v).f = s.f := rfl

@[simp] theorem setHL_sp (s : State) (v : Word) :
    (s.setHL v).sp = s.sp := rfl

@[simp] theorem setHL_pc (s : State) (v : Word) :
    (s.setHL v).pc = s.pc := rfl

@[simp] theorem setHL_ime (s : State) (v : Word) :
    (s.setHL v).ime = s.ime := rfl

@[simp] theorem setHL_eiDelay (s : State) (v : Word) :
    (s.setHL v).eiDelay = s.eiDelay := rfl

@[simp] theorem setHL_cpu (s : State) (v : Word) :
    (s.setHL v).cpu = s.cpu := rfl

@[simp] theorem setHL_fault (s : State) (v : Word) :
    (s.setHL v).fault = s.fault := rfl

@[simp] theorem setHL_ie (s : State) (v : Word) :
    (s.setHL v).ie = s.ie := rfl

@[simp] theorem setHL_ifl (s : State) (v : Word) :
    (s.setHL v).ifl = s.ifl := rfl

@[simp] theorem setHL_div16 (s : State) (v : Word) :
    (s.setHL v).div16 = s.div16 := rfl

@[simp] theorem setHL_tima (s : State) (v : Word) :
    (s.setHL v).tima = s.tima := rfl

@[simp] theorem setHL_tma (s : State) (v : Word) :
    (s.setHL v).tma = s.tma := rfl

@[simp] theorem setHL_tac (s : State) (v : Word) :
    (s.setHL v).tac = s.tac := rfl

@[simp] theorem setHL_reloadPending (s : State) (v : Word) :
    (s.setHL v).reloadPending = s.reloadPending := rfl

@[simp] theorem setHL_mem (s : State) (v : Word) :
    (s.setHL v).mem = s.mem := rfl

@[simp] theorem setHL_hookTrace (s : State) (v : Word) :
    (s.setHL v).hookTrace = s.hookTrace := rfl

@[simp] theorem setHL_breakpoints (s : State) (v : Word) :
    (s.setHL v).breakpoints = s.breakpoints := rfl

@[simp] theorem setHL_cancelFlag (s : State) (v : Word) :
    (s.setHL v).cancelFlag = s.cancelFlag := rfl

@[simp] theorem setHL_params (s : State) (v : Word) :
    (s.setHL v).params = s.params := rfl

@[simp] theorem setHL_h (s : State) (v : Word) :
    (s.setHL v).h = hiByte v := rfl

@[simp] theorem setHL_l (s : State) (v : Word) :
    (s.setHL v).l = loByte v := rfl

@[simp] theorem hl_setHL (s : State) (v : Word) :
    (s.setHL v).hl = v := by simp [State.hl]

/-! ## setPair and setStackPair -/

@[simp] theorem setPair_a (s : State) (p : Pair) (v : Word) :
    (s.setPair p v).a = s.a := by cases p <;> rfl

@[simp] theorem setPair_f (s : State) (p : Pair) (v : Word) :
    (s.setPair p v).f = s.f := by cases p <;> rfl

@[simp] theorem setPair_pc (s : State) (p : Pair) (v : Word) :
    (s.setPair p v).pc = s.pc := by cases p <;> rfl

@[simp] theorem setPair_ime (s : State) (p : Pair) (v : Word) :
    (s.setPair p v).ime = s.ime := by cases p <;> rfl

@[simp] theorem setPair_eiDelay (s : State) (p : Pair) (v : Word) :
    (s.setPair p v).eiDelay = s.eiDelay := by cases p <;> rfl

@[simp] theorem setPair_cpu (s : State) (p : Pair) (v : Word) :
    (s.setPair p v).cpu = s.cpu := by cases p <;> rfl

@[simp] theorem setPair_fault (s : State) (p : Pair) (v : Word) :
    (s.setPair p v).fault = s.fault := by cases p <;> rfl

@[simp] theorem setPair_ie (s : State) (p : Pair) (v : Word) :
    (s.setPair p v).ie = s.ie := by cases p <;> rfl

@[simp] theorem setPair_ifl (s : State) (p : Pair) (v : Word) :
    (s.setPair p v).ifl = s.ifl := by cases p <;> rfl

@[simp] theorem setPair_div16 (s : State) (p : Pair) (v : Word) :
    (s.setPair p v).div16 = s.div16 := by cases p <;> rfl

@[simp] theorem setPair_tima (s : State) (p : Pair) (v : Word) :
    (s.setPair p v).tima = s.tima := by cases p <;> rfl

@[simp] theorem setPair_tma (s : State) (p : Pair) (v : Word) :
    (s.setPair p v).tma = s.tma := by cases p <;> rfl

@[simp] theorem setPair_tac (s : State) (p : Pair) (v : Word) :
    (s.setPair p v).tac = s.tac := by cases p <;> rfl

@[simp] theorem setPair_reloadPending (s : State) (p : Pair) (v : Word) :
    (s.setPair p v).reloadPending = s.reloadPending := by cases p <;> rfl

@[simp] theorem setPair_mem (s : State) (p : Pair) (v : Word) :
    (s.setPair p v).mem = s.mem := by cases p <;> rfl

@[simp] theorem setPair_hookTrace (s : State) (p : Pair) (v : Word) :
    (s.setPair p v).hookTrace = s.hookTrace := by cases p <;> rfl

@[simp] theorem setPair_breakpoints (s : State) (p : Pair) (v : Word) :
    (s.setPair p v).breakpoints = s.breakpoints := by cases p <;> rfl

@[simp] theorem setPair_cancelFlag (s : State) (p : Pair) (v : Word) :
    (s.setPair p v).cancelFlag = s.cancelFlag := by cases p <;> rfl

@[simp] theorem setPair_params (s : State) (p : Pair) (v : Word) :
    (s.setPair p v).params = s.params := by cases p <;> rfl

@[simp] theorem pair_setPair (s : State) (p : Pair) (v : Word) :
    (s.setPair p v).pair p = v := by
  cases p <;> simp [State.setPair, State.pair, State.bc, State.de, State.hl, State.setHL]

@[simp] theorem setStackPair_sp (s : State) (p : StackPair) (v : Word) :
    (s.setStackPair p v).sp = s.sp := by cases p <;> rfl

@[simp] theorem setStackPair_pc (s : State) (p : StackPair) (v : Word) :
    (s.setStackPair p v).pc = s.pc := by cases p <;> rfl

@[simp] theorem setStackPair_ime (s : State) (p : StackPair) (v : Word) :
    (s.setStackPair p v).ime = s.ime := by cases p <;> rfl

@[simp] theorem setStackPair_eiDelay (s : State) (p : StackPair) (v : Word) :
    (s.setStackPair p v).eiDelay = s.eiDelay := by cases p <;> rfl

@[simp] theorem setStackPair_cpu (s : State) (p : StackPair) (v : Word) :
    (s.setStackPair p v).cpu = s.cpu := by cases p <;> rfl

@[simp] theorem setStackPair_fault (s : State) (p : StackPair) (v : Word) :
    (s.setStackPair p v).fault = s.fault := by cases p <;> rfl

@[simp] theorem setStackPair_ie (s : State) (p : StackPair) (v : Word) :
    (s.setStackPair p v).ie = s.ie := by cases p <;> rfl

@[simp] theorem setStackPair_ifl (s : State) (p : StackPair) (v : Word) :
    (s.setStackPair p v).ifl = s.ifl := by cases p <;> rfl

@[simp] theorem setStackPair_div16 (s : State) (p : StackPair) (v : Word) :
    (s.setStackPair p v).div16 = s.div16 := by cases p <;> rfl

@[simp] theorem setStackPair_tima (s : State) (p : StackPair) (v : Word) :
    (s.setStackPair p v).tima = s.tima := by cases p <;> rfl

@[simp] theorem setStackPair_tma (s : State) (p : StackPair) (v : Word) :
    (s.setStackPair p v).tma = s.tma := by cases p <;> rfl

@[simp] theorem setStackPair_tac (s : State) (p : StackPair) (v : Word) :
    (s.setStackPair p v).tac = s.tac := by cases p <;> rfl

@[simp] theorem setStackPair_reloadPending (s : State) (p : StackPair) (v : Word) :
    (s.setStackPair p v).reloadPending = s.reloadPending := by cases p <;> rfl

@[simp] theorem setStackPair_mem (s : State) (p : StackPair) (v : Word) :
    (s.setStackPair p v).mem = s.mem := by cases p <;> rfl

@[simp] theorem setStackPair_hookTrace (s : State) (p : StackPair) (v : Word) :
    (s.setStackPair p v).hookTrace = s.hookTrace := by cases p <;> rfl

@[simp] theorem setStackPair_breakpoints (s : State) (p : StackPair) (v : Word) :
    (s.setStackPair p v).breakpoints = s.breakpoints := by cases p <;> rfl

@[simp] theorem setStackPair_cancelFlag (s : State) (p : StackPair) (v : Word) :
    (s.setStackPair p v).cancelFlag = s.cancelFlag := by cases p <;> rfl

@[simp] theorem setStackPair_params (s : State) (p : StackPair) (v : Word) :
    (s.setStackPair p v).params = s.params := by cases p <;> rfl

/-! ## memWrite: only memory, the bus registers and the hook trace can change -/

@[simp] theorem memWrite_a (s : State) (x : Word) (v : Byte) :
    (memWrite s x v).a = s.a := by
  unfold memWrite; split <;> rfl

@[simp] theorem memWrite_b (s : State) (x : Word) (v : Byte) :
    (memWrite s x v).b = s.b := by
  unfold memWrite; split <;> rfl

@[simp] theorem memWrite_c (s : State) (x : Word) (v : Byte) :
    (memWrite s x v).c = s.c := by
  unfold memWrite; split <;> rfl

@[simp] theorem memWrite_d (s : State) (x : Word) (v : Byte) :
    (memWrite s x v).d = s.d := by
  unfold memWrite; split <;> rfl

@[simp] theorem memWrite_e (s : State) (x : Word) (v : Byte) :
    (memWrite s x v).e = s.e := by
  unfold memWrite; split <;> rfl

@[simp] theorem memWrite_h (s : State) (x : Word) (v : Byte) :
    (memWrite s x v).h = s.h := by
  unfold memWrite; split <;> rfl

@[simp] theorem memWrite_l (s : State) (x : Word) (v : Byte) :
    (memWrite s x v).l = s.l := by
  unfold memWrite; split <;> rfl

@[simp] theorem memWrite_f (s : State) (x : Word) (v : Byte) :
    (memWrite s x v).f = s.f := by
  unfold memWrite; split <;> rfl

@[simp] theorem memWrite_sp (s : State) (x : Word) (v : Byte) :
    (memWrite s x v).sp = s.sp := by
  unfold memWrite; split <;> rfl

@[simp] theorem memWrite_pc (s : State) (x : Word) (v : Byte) :
    (memWrite s x v).pc = s.pc := by
  unfold memWrite; split <;> rfl

@[simp] theorem memWrite_ime (s : State) (x : Word) (v : Byte) :
    (memWrite s x v).ime = s.ime := by
  unfold memWrite; split <;> rfl

@[simp] theorem memWrite_eiDelay (s : State) (x : Word) (v : Byte) :
    (memWrite s x v).eiDelay = s.eiDelay := by
  unfold memWrite; split <;> rfl

@[simp] theorem memWrite_cpu (s : State) (x : Word) (v : Byte) :
    (memWrite s x v).cpu = s.cpu := by
  unfold memWrite; split <;> rfl

@[simp] theorem memWrite_fault (s : State) (x : Word) (v : Byte) :
    (memWrite s x v).fault = s.fault := by
  unfold memWrite; split <;> rfl

@[simp] theorem memWrite_breakpoints (s : State) (x : Word) (v : Byte) :
    (memWrite s x v).breakpoints = s.breakpoints := by
  unfold memWrite; split <;> rfl

@[simp] theorem memWrite_cancelFlag (s : State) (x : Word) (v : Byte) :
    (memWrite s x v).cancelFlag = s.cancelFlag := by
  unfold memWrite; split <;> rfl

@[simp] theorem memWrite_params (s : State) (x : Word) (v : Byte) :
    (memWrite s x v).params = s.params := by
  unfold memWrite; split <;> rfl

@[simp] theorem memWrite_hl (s : State) (x : Word) (v : Byte) :
    (memWrite s x v).hl = s.hl := by simp [State.hl]

@[simp] theorem memWrite_bc (s : State) (x : Word) (v : Byte) :
    (memWrite s x v).bc = s.bc := by simp [State.bc]

@[simp] theorem memWrite_de (s : State) (x : Word) (v : Byte) :
    (memWrite s x v).de = s.de := by simp [State.de]

@[simp] theorem memWrite_reg (s : State) (x : Word) (v : Byte) (r : Reg) :
    (memWrite s x v).reg r = s.reg r := by cases r <;> simp [State.reg]

/-! ## The stack -/

@[simp] theorem push16_a (s : State) (v : Word) :
    (push16 v s).a = s.a := by simp [push16]

@[simp] theorem push16_b (s : State) (v : Word) :
    (push16 v s).b = s.b := by simp [push16]

@[simp] theorem push16_c (s : State) (v : Word) :
    (push16 v s).c = s.c := by simp [push16]

@[simp] theorem push16_d (s : State) (v : Word) :
    (push16 v s).d = s.d := by simp [push16]

@[simp] theorem push16_e (s : State) (v : Word) :
    (push16 v s).e = s.e := by simp [push16]

@[simp] theorem push16_h (s : State) (v : Word) :
    (push16 v s).h = s.h := by simp [push16]

@[simp] theorem push16_l (s : State) (v : Word) :
    (push16 v s).l = s.l := by simp [push16]

@[simp] theorem push16_f (s : State) (v : Word) :
    (push16 v s).f = s.f := by simp [push16]

@[simp] theorem push16_pc (s : State) (v : Word) :
    (push16 v s).pc = s.pc := by simp [push16]

@[simp] theorem push16_ime (s : State) (v : Word) :
    (push16 v s).ime = s.ime := by simp [push16]

@[simp] theorem push16_eiDelay (s : State) (v : Word) :
    (push16 v s).eiDelay = s.eiDelay := by simp [push16]

@[simp] theorem push16_cpu (s : State) (v : Word) :
    (push16 v s).cpu = s.cpu := by simp [push16]

@[simp] theorem push16_fault (s : State) (v : Word) :
    (push16 v s).fault = s.fault := by simp [push16]

@[simp] theorem push16_breakpoints (s : State) (v : Word) :
    (push16 v s).breakpoints = s.breakpoints := by simp [push16]

@[simp] theorem push16_cancelFlag (s : State) (v : Word) :
    (push16 v s).cancelFlag = s.cancelFlag := by simp [push16]

@[simp] theorem push16_params (s : State) (v : Word) :
    (push16 v s).params = s.params := by simp [push16]

@[simp] theorem push16_sp (s : State) (v : Word) :
    (push16 v s).sp = s.sp - 2 := by simp [push16]

@[simp] theorem push16_reg (s : State) (v : Word) (r : Reg) :
    (push16 v s).reg r = s.reg r := by cases r <;> simp [State.reg]

@[simp] theorem dropTwo_a (s : State) :
    (dropTwo s).a = s.a := rfl

@[simp] theorem dropTwo_b (s : State) :
    (dropTwo s).b = s.b := rfl

@[simp] theorem dropTwo_c (s : State) :
    (dropTwo s).c = s.c := rfl

@[simp] theorem dropTwo_d (s : State) :
    (dropTwo s).d = s.d := rfl

@[simp] theorem dropTwo_e (s : State) :
    (dropTwo s).e = s.e := rfl

@[simp] theorem dropTwo_h (s : State) :
    (dropTwo s).h = s.h := rfl

@[simp] theorem dropTwo_l (s : State) :
    (dropTwo s).l = s.l := rfl

@[simp] theorem dropTwo_f (s : State) :
    (dropTwo s).f = s.f := rfl

@[simp] theorem dropTwo_pc (s : State) :
    (dropTwo s).pc = s.pc := rfl

@[simp] theorem dropTwo_ime (s : State) :
    (dropTwo s).ime = s.ime := rfl

@[simp] theorem dropTwo_eiDelay (s : State) :
    (dropTwo s).eiDelay = s.eiDelay := rfl

@[simp] theorem dropTwo_cpu (s : State) :
    (dropTwo s).cpu = s.cpu := rfl

@[simp] theorem dropTwo_fault (s : State) :
    (dropTwo s).fault = s.fault := rfl

@[simp] theorem dropTwo_ie (s : State) :
    (dropTwo s).ie = s.ie := rfl

@[simp] theorem dropTwo_ifl (s : State) :
    (dropTwo s).ifl = s.ifl := rfl

@[simp] theorem dropTwo_div16 (s : State) :
    (dropTwo s).div16 = s.div16 := rfl

@[simp] theorem dropTwo_tima (s : State) :
    (dropTwo s).tima = s.tima := rfl

@[simp] theorem dropTwo_tma (s : State) :
    (dropTwo s).tma = s.tma := rfl

@[simp] theorem dropTwo_tac (s : State) :
    (dropTwo s).tac = s.tac := rfl

@[simp] theorem dropTwo_reloadPending (s : State) :
    (dropTwo s).reloadPending = s.reloadPending := rfl

@[simp] theorem dropTwo_mem (s : State) :
    (dropTwo s).mem = s.mem := rfl

@[simp] theorem dropTwo_hookTrace (s : State) :
    (dropTwo s).hookTrace = s.hookTrace := rfl

@[simp] theorem dropTwo_breakpoints (s : State) :
    (dropTwo s).breakpoints = s.breakpoints := rfl

@[simp] theorem dropTwo_cancelFlag (s : State) :
    (dropTwo s).cancelFlag = s.cancelFlag := rfl

@[simp] theorem dropTwo_params (s : State) :
    (dropTwo s).params = s.params := rfl

@[simp] theorem dropTwo_sp (s : State) :
    (dropTwo s).sp = s.sp + 2 := rfl

/-! ## Interrupt requests, interrupt entry, DecodeError -/

@[simp] theorem requestInterrupt_a (s : State) (i : IntSource) :
    (requestInterrupt i s).a = s.a := rfl

@[simp] theorem requestInterrupt_b (s : State) (i : IntSource) :
    (requestInterrupt i s).b = s.b := rfl

@[simp] theorem requestInterrupt_c (s : State) (i : IntSource) :
    (requestInterrupt i s).c = s.c := rfl

@[simp] theorem requestInterrupt_d (s : State) (i : IntSource) :
    (requestInterrupt i s).d = s.d := rfl

@[simp] theorem requestInterrupt_e (s : State) (i : IntSource) :
    (requestInterrupt i s).e = s.e := rfl

@[simp] theorem requestInterrupt_h (s : State) (i : IntSource) :
    (requestInterrupt i s).h = s.h := rfl

@[simp] theorem requestInterrupt_l (s : State) (i : IntSource) :
    (requestInterrupt i s).l = s.l := rfl

@[simp] theorem requestInterrupt_f (s : State) (i : IntSource) :
    (requestInterrupt i s).f = s.f := rfl

@[simp] theorem requestInterrupt_sp (s : State) (i : IntSource) :
    (requestInterrupt i s).sp = s.sp := rfl

@[simp] theorem requestInterrupt_pc (s : State) (i : IntSource) :
    (requestInterrupt i s).pc = s.pc := rfl

@[simp] theorem requestInterrupt_ime (s : State) (i : IntSource) :
    (requestInterrupt i s).ime = s.ime := rfl

@[simp] theorem requestInterrupt_eiDelay (s : State) (i : IntSource) :
    (requestInterrupt i s).eiDelay = s.eiDelay := rfl

@[simp] theorem requestInterrupt_cpu (s : State) (i : IntSource) :
    (requestInterrupt i s).cpu = s.cpu := rfl

@[simp] theorem requestInterrupt_fault (s : State) (i : IntSource) :
    (requestInterrupt i s).fault = s.fault := rfl

@[simp] theorem requestInterrupt_ie (s : State) (i : IntSource) :
    (requestInterrupt i s).ie = s.ie := rfl

@[simp] theorem requestInterrupt_div16 (s : State) (i : IntSource) :
    (requestInterrupt i s).div16 = s.div16 := rfl

@[simp] theorem requestInterrupt_tima (s : State) (i : IntSource) :
    (requestInterrupt i s).tima = s.tima := rfl

@[simp] theorem requestInterrupt_tma (s : State) (i : IntSource) :
    (requestInterrupt i s).tma = s.tma := rfl

@[simp] theorem requestInterrupt_tac (s : State) (i : IntSource) :
    (requestInterrupt i s).tac = s.tac := rfl

@[simp] theorem requestInterrupt_reloadPending (s : State) (i : IntSource) :
    (requestInterrupt i s).reloadPending = s.reloadPending := rfl

@[simp] theorem requestInterrupt_mem (s : State) (i : IntSource) :
    (requestInterrupt i s).mem = s.mem := rfl

@[simp] theorem requestInterrupt_hookTrace (s : State) (i : IntSource) :
    (requestInterrupt i s).hookTrace = s.hookTrace := rfl

@[simp] theorem requestInterrupt_breakpoints (s : State) (i : IntSource) :
    (requestInterrupt i s).breakpoints = s.breakpoints := rfl

@[simp] theorem requestInterrupt_cancelFlag (s : State) (i : IntSource) :
    (requestInterrupt i s).cancelFlag = s.cancelFlag := rfl

@[simp] theorem requestInterrupt_params (s : State) (i : IntSource) :
    (requestInterrupt i s).params = s.params := rfl

@[simp] theorem acknowledge_a (s : State) (i : IntSource) :
    (acknowledge i s).a = s.a := rfl

@[simp] theorem acknowledge_b (s : State) (i : IntSource) :
    (acknowledge i s).b = s.b := rfl

@[simp] theorem acknowledge_c (s : State) (i : IntSource) :
    (acknowledge i s).c = s.c := rfl

@[simp] theorem acknowledge_d (s : State) (i : IntSource) :
    (acknowledge i s).d = s.d := rfl

@[simp] theorem acknowledge_e (s : State) (i : IntSource) :
    (acknowledge i s).e = s.e := rfl

@[simp] theorem acknowledge_h (s : State) (i : IntSource) :
    (acknowledge i s).h = s.h := rfl

@[simp] theorem acknowledge_l (s : State) (i : IntSource) :
    (acknowledge i s).l = s.l := rfl

@[simp] theorem acknowledge_f (s : State) (i : IntSource) :
    (acknowledge i s).f = s.f := rfl

@[simp] theorem acknowledge_sp (s : State) (i : IntSource) :
    (acknowledge i s).sp = s.sp := rfl

@[simp] theorem acknowledge_pc (s : State) (i : IntSource) :
    (acknowledge i s).pc = s.pc := rfl

@[simp] theorem acknowledge_ime (s : State) (i : IntSource) :
    (acknowledge i s).ime = s.ime := rfl

@[simp] theorem acknowledge_eiDelay (s : State) (i : IntSource) :
    (acknowledge i s).eiDelay = s.eiDelay := rfl

@[simp] theorem acknowledge_cpu (s : State) (i : IntSource) :
    (acknowledge i s).cpu = s.cpu := rfl

@[simp] theorem acknowledge_fault (s : State) (i : IntSource) :
    (acknowledge i s).fault = s.fault := rfl

@[simp] theorem acknowledge_ie (s : State) (i : IntSource) :
    (acknowledge i s).ie = s.ie := rfl

@[simp] theorem acknowledge_div16 (s : State) (i : IntSource) :
    (acknowledge i s).div16 = s.div16 := rfl

@[simp] theorem acknowledge_tima (s : State) (i : IntSource) :
    (acknowledge i s).tima = s.tima := rfl

@[simp] theorem acknowledge_tma (s : State) (i : IntSource) :
    (acknowledge i s).tma = s.tma := rfl

@[simp] theorem acknowledge_tac (s : State) (i : IntSource) :
    (acknowledge i s).tac = s.tac := rfl

@[simp] theorem acknowledge_reloadPending (s : State) (i : IntSource) :
    (acknowledge i s).reloadPending = s.reloadPending := rfl

@[simp] theorem acknowledge_mem (s : State) (i : IntSource) :
    (acknowledge i s).mem = s.mem := rfl

@[simp] theorem acknowledge_hookTrace (s : State) (i : IntSource) :
    (acknowledge i s).hookTrace = s.hookTrace := rfl

@[simp] theorem acknowledge_breakpoints (s : State) (i : IntSource) :
    (acknowledge i s).breakpoints = s.breakpoints := rfl

@[simp] theorem acknowledge_cancelFlag (s : State) (i : IntSource) :
    (acknowledge i s).cancelFlag = s.cancelFlag := rfl

@[simp] theorem acknowledge_params (s : State) (i : IntSource) :
    (acknowledge i s).params = s.params := rfl

@[simp] theorem takeInterrupt_a (s : State) (i : IntSource) :
    (takeInterrupt i s).a = s.a := by simp [takeInterrupt]

@[simp] theorem takeInterrupt_b (s : State) (i : IntSource) :
    (takeInterrupt i s).b = s.b := by simp [takeInterrupt]

@[simp] theorem takeInterrupt_c (s : State) (i : IntSource) :
    (takeInterrupt i s).c = s.c := by simp [takeInterrupt]

@[simp] theorem takeInterrupt_d (s : State) (i : IntSource) :
    (takeInterrupt i s).d = s.d := by simp [takeInterrupt]

@[simp] theorem takeInterrupt_e (s : State) (i : IntSource) :
    (takeInterrupt i s).e = s.e := by simp [takeInterrupt]

@[simp] theorem takeInterrupt_h (s : State) (i : IntSource) :
    (takeInterrupt i s).h = s.h := by simp [takeInterrupt]

@[simp] theorem takeInterrupt_l (s : State) (i : IntSource) :
    (takeInterrupt i s).l = s.l := by simp [takeInterrupt]

@[simp] theorem takeInterrupt_f (s : State) (i : IntSource) :
    (takeInterrupt i s).f = s.f := by simp [takeInterrupt]

@[simp] theorem takeInterrupt_cpu (s : State) (i : IntSource) :
    (takeInterrupt i s).cpu = s.cpu := by simp [takeInterrupt]

@[simp] theorem takeInterrupt_fault (s : State) (i : IntSource) :
    (takeInterrupt i s).fault = s.fault := by simp [takeInterrupt]

@[simp] theorem takeInterrupt_breakpoints (s : State) (i : IntSource) :
    (takeInterrupt i s).breakpoints = s.breakpoints := by simp [takeInterrupt]

@[simp] theorem takeInterrupt_cancelFlag (s : State) (i : IntSource) :
    (takeInterrupt i s).cancelFlag = s.cancelFlag := by simp [takeInterrupt]

@[simp] theorem takeInterrupt_params (s : State) (i : IntSource) :
    (takeInterrupt i s).params = s.params := by simp [takeInterrupt]

@[simp] theorem takeInterrupt_sp (s : State) (i : IntSource) :
    (takeInterrupt i s).sp = s.sp - 2 := by simp [takeInterrupt]

@[simp] theorem takeInterrupt_pc (s : State) (i : IntSource) :
    (takeInterrupt i s).pc = i.vector := by simp [takeInterrupt]

@[simp] theorem takeInterrupt_ime (s : State) (i : IntSource) :
    (takeInterrupt i s).ime = false := by simp [takeInterrupt]

@[simp] theorem takeInterrupt_eiDelay (s : State) (i : IntSource) :
    (takeInterrupt i s).eiDelay = false := by simp [takeInterrupt]

@[simp] theorem raiseDecodeError_a (s : State) (b : Byte) :
    (raiseDecodeError b s).a = s.a := rfl

@[simp] theorem raiseDecodeError_b (s : State) (b : Byte) :
    (raiseDecodeError b s).b = s.b := rfl

@[simp] theorem raiseDecodeError_c (s : State) (b : Byte) :
    (raiseDecodeError b s).c = s.c := rfl

@[simp] theorem raiseDecodeError_d (s : State) (b : Byte) :
    (raiseDecodeError b s).d = s.d := rfl

@[simp] theorem raiseDecodeError_e (s : State) (b : Byte) :
    (raiseDecodeError b s).e = s.e := rfl

@[simp] theorem raiseDecodeError_h (s : State) (b : Byte) :
    (raiseDecodeError b s).h = s.h := rfl

@[simp] theorem raiseDecodeError_l (s : State) (b : Byte) :
    (raiseDecodeError b s).l = s.l := rfl

@[simp] theorem raiseDecodeError_f (s : State) (b : Byte) :
    (raiseDecodeError b s).f = s.f := rfl

@[simp] theorem raiseDecodeError_sp (s : State) (b : Byte) :
    (raiseDecodeError b s).sp = s.sp := rfl

@[simp] theorem raiseDecodeError_pc (s : State) (b : Byte) :
    (raiseDecodeError b s).pc = s.pc := rfl

@[simp] theorem raiseDecodeError_ime (s : State) (b : Byte) :
    (raiseDecodeError b s).ime = s.ime := rfl

@[simp] theorem raiseDecodeError_eiDelay (s : State) (b : Byte) :
    (raiseDecodeError b s).eiDelay = s.eiDelay := rfl

@[simp] theorem raiseDecodeError_cpu (s : State) (b : Byte) :
    (raiseDecodeError b s).cpu = s.cpu := rfl

@[simp] theorem raiseDecodeError_ie (s : State) (b : Byte) :
    (raiseDecodeError b s).ie = s.ie := rfl

@[simp] theorem raiseDecodeError_ifl (s : State) (b : Byte) :
    (raiseDecodeError b s).ifl = s.ifl := rfl

@[simp] theorem raiseDecodeError_div16 (s : State) (b : Byte) :
    (raiseDecodeError b s).div16 = s.div16 := rfl

@[simp] theorem raiseDecodeError_tima (s : State) (b : Byte) :
    (raiseDecodeError b s).tima = s.tima := rfl

@[simp] theorem raiseDecodeError_tma (s : State) (b : Byte) :
    (raiseDecodeError b s).tma = s.tma := rfl

@[simp] theorem raiseDecodeError_tac (s : State) (b : Byte) :
    (raiseDecodeError b s).tac = s.tac := rfl

@[simp] theorem raiseDecodeError_reloadPending (s : State) (b : Byte) :
    (raiseDecodeError b s).reloadPending = s.reloadPending := rfl

@[simp] theorem raiseDecodeError_mem (s : State) (b : Byte) :
    (raiseDecodeError b s).mem = s.mem := rfl

@[simp] theorem raiseDecodeError_hookTrace (s : State) (b : Byte) :
    (raiseDecodeError b s).hookTrace = s.hookTrace := rfl

@[simp] theorem raiseDecodeError_breakpoints (s : State) (b : Byte) :
    (raiseDecodeError b s).breakpoints = s.breakpoints := rfl

@[simp] theorem raiseDecodeError_cancelFlag (s : State) (b : Byte) :
    (raiseDecodeError b s).cancelFlag = s.cancelFlag := rfl

@[simp] theorem raiseDecodeError_params (s : State) (b : Byte) :
    (raiseDecodeError b s).params = s.params := rfl

/-! ## The timer: only div16, TIMA, reload_pending and IF can change -/

@[simp] theorem countReload_a (s : State) :
    (countReload s).a = s.a := by
  unfold countReload; split_ifs <;> rfl

@[simp] theorem countReload_b (s : State) :
    (countReload s).b = s.b := by
  unfold countReload; split_ifs <;> rfl

@[simp] theorem countReload_c (s : State) :
    (countReload s).c = s.c := by
  unfold countReload; split_ifs <;> rfl

@[simp] theorem countReload_d (s : State) :
    (countReload s).d = s.d := by
  unfold countReload; split_ifs <;> rfl

@[simp] theorem countReload_e (s : State) :
    (countReload s).e = s.e := by
  unfold countReload; split_ifs <;> rfl

@[simp] theorem countReload_h (s : State) :
    (countReload s).h = s.h := by
  unfold countReload; split_ifs <;> rfl

@[simp] theorem countReload_l (s : State) :
    (countReload s).l = s.l := by
  unfold countReload; split_ifs <;> rfl

@[simp] theorem countReload_f (s : State) :
    (countReload s).f = s.f := by
  unfold countReload; split_ifs <;> rfl

@[simp] theorem countReload_sp (s : State) :
    (countReload s).sp = s.sp := by
  unfold countReload; split_ifs <;> rfl

@[simp] theorem countReload_pc (s : State) :
    (countReload s).pc = s.pc := by
  unfold countReload; split_ifs <;> rfl

@[simp] theorem countReload_ime (s : State) :
    (countReload s).ime = s.ime := by
  unfold countReload; split_ifs <;> rfl

@[simp] theorem countReload_eiDelay (s : State) :
    (countReload s).eiDelay = s.eiDelay := by
  unfold countReload; split_ifs <;> rfl

@[simp] theorem countReload_cpu (s : State) :
    (countReload s).cpu = s.cpu := by
  unfold countReload; split_ifs <;> rfl

@[simp] theorem countReload_fault (s : State) :
    (countReload s).fault = s.fault := by
  unfold countReload; split_ifs <;> rfl

@[simp] theorem countReload_ie (s : State) :
    (countReload s).ie = s.ie := by
  unfold countReload; split_ifs <;> rfl

@[simp] theorem countReload_tma (s : State) :
    (countReload s).tma = s.tma := by
  unfold countReload; split_ifs <;> rfl

@[simp] theorem countReload_tac (s : State) :
    (countReload s).tac = s.tac := by
  unfold countReload; split_ifs <;> rfl

@[simp] theorem countReload_mem (s : State) :
    (countReload s).mem = s.mem := by
  unfold countReload; split_ifs <;> rfl

@[simp] theorem countReload_hookTrace (s : State) :
    (countReload s).hookTrace = s.hookTrace := by
  unfold countReload; split_ifs <;> rfl

@[simp] theorem countReload_breakpoints (s : State) :
    (countReload s).breakpoints = s.breakpoints := by
  unfold countReload; split_ifs <;> rfl

@[simp] theorem countReload_cancelFlag (s : State) :
    (countReload s).cancelFlag = s.cancelFlag := by
  unfold countReload; split_ifs <;> rfl

@[simp] theorem countReload_params (s : State) :
    (countReload s).params = s.params := by
  unfold countReload; split_ifs <;> rfl

@[simp] theorem countReload_div16 (s : State) :
    (countReload s).div16 = s.div16 := by
  unfold countReload; split_ifs <;> rfl

@[simp] theorem incrementTima_a (s : State) :
    (incrementTima s).a = s.a := by
  unfold incrementTima; split_ifs <;> rfl

@[simp] theorem incrementTima_b (s : State) :
    (incrementTima s).b = s.b := by
  unfold incrementTima; split_ifs <;> rfl

@[simp] theorem incrementTima_c (s : State) :
    (incrementTima s).c = s.c := by
  unfold incrementTima; split_ifs <;> rfl

@[simp] theorem incrementTima_d (s : State) :
    (incrementTima s).d = s.d := by
  unfold incrementTima; split_ifs <;> rfl

@[simp] theorem incrementTima_e (s : State) :
    (incrementTima s).e = s.e := by
  unfold incrementTima; split_ifs <;> rfl

@[simp] theorem incrementTima_h (s : State) :
    (incrementTima s).h = s.h := by
  unfold incrementTima; split_ifs <;> rfl

@[simp] theorem incrementTima_l (s : State) :
    (incrementTima s).l = s.l := by
  unfold incrementTima; split_ifs <;> rfl

@[simp] theorem incrementTima_f (s : State) :
    (incrementTima s).f = s.f := by
  unfold incrementTima; split_ifs <;> rfl

@[simp] theorem incrementTima_sp (s : State) :
    (incrementTima s).sp = s.sp := by
  unfold incrementTima; split_ifs <;> rfl

@[simp] theorem incrementTima_pc (s : State) :
    (incrementTima s).pc = s.pc := by
  unfold incrementTima; split_ifs <;> rfl

@[simp] theorem incrementTima_ime (s : State) :
    (incrementTima s).ime = s.ime := by
  unfold incrementTima; split_ifs <;> rfl

@[simp] theorem incrementTima_eiDelay (s : State) :
    (incrementTima s).eiDelay = s.eiDelay := by
  unfold incrementTima; split_ifs <;> rfl

@[simp] theorem incrementTima_cpu (s : State) :
    (incrementTima s).cpu = s.cpu := by
  unfold incrementTima; split_ifs <;> rfl

@[simp] theorem incrementTima_fault (s : State) :
    (incrementTima s).fault = s.fault := by
  unfold incrementTima; split_ifs <;> rfl

@[simp] theorem incrementTima_ie (s : State) :
    (incrementTima s).ie = s.ie := by
  unfold incrementTima; split_ifs <;> rfl

@[simp] theorem incrementTima_tma (s : State) :
    (incrementTima s).tma = s.tma := by
  unfold incrementTima; split_ifs <;> rfl

@[simp] theorem incrementTima_tac (s : State) :
    (incrementTima s).tac = s.tac := by
  unfold incrementTima; split_ifs <;> rfl

@[simp] theorem incrementTima_mem (s : State) :
    (incrementTima s).mem = s.mem := by
  unfold incrementTima; split_ifs <;> rfl

@[simp] theorem incrementTima_hookTrace (s : State) :
    (incrementTima s).hookTrace = s.hookTrace := by
  unfold incrementTima; split_ifs <;> rfl

@[simp] theorem incrementTima_breakpoints (s : State) :
    (incrementTima s).breakpoints = s.breakpoints := by
  unfold incrementTima; split_ifs <;> rfl

@[simp] theorem incrementTima_cancelFlag (s : State) :
    (incrementTima s).cancelFlag = s.cancelFlag := by
  unfold incrementTima; split_ifs <;> rfl

@[simp] theorem incrementTima_params (s : State) :
    (incrementTima s).params = s.params := by
  unfold incrementTima; split_ifs <;> rfl

@[simp] theorem incrementTima_div16 (s : State) :
    (incrementTima s).div16 = s.div16 := by
  unfold incrementTima; split_ifs <;> rfl

@[simp] theorem incrementTima_ifl (s : State) :
    (incrementTima s).ifl = s.ifl := by
  unfold incrementTima; split_ifs <;> rfl

@[simp] theorem countDivider_a (s : State) :
    (countDivider s).a = s.a := by
  unfold countDivider; split_ifs <;> simp

@[simp] theorem countDivider_b (s : State) :
    (countDivider s).b = s.b := by
  unfold countDivider; split_ifs <;> simp

@[simp] theorem countDivider_c (s : State) :
    (countDivider s).c = s.c := by
  unfold countDivider; split_ifs <;> simp

@[simp] theorem countDivider_d (s : State) :
    (countDivider s).d = s.d := by
  unfold countDivider; split_ifs <;> simp

@[simp] theorem countDivider_e (s : State) :
    (countDivider s).e = s.e := by
  unfold countDivider; split_ifs <;> simp

@[simp] theorem countDivider_h (s : State) :
    (countDivider s).h = s.h := by
  unfold countDivider; split_ifs <;> simp

@[simp] theorem countDivider_l (s : State) :
    (countDivider s).l = s.l := by
  unfold countDivider; split_ifs <;> simp

@[simp] theorem countDivider_f (s : State) :
    (countDivider s).f = s.f := by
  unfold countDivider; split_ifs <;> simp

@[simp] theorem countDivider_sp (s : State) :
    (countDivider s).sp = s.sp := by
  unfold countDivider; split_ifs <;> simp

@[simp] theorem countDivider_pc (s : State) :
    (countDivider s).pc = s.pc := by
  unfold countDivider; split_ifs <;> simp

@[simp] theorem countDivider_ime (s : State) :
    (countDivider s).ime = s.ime := by
  unfold countDivider; split_ifs <;> simp

@[simp] theorem countDivider_eiDelay (s : State) :
    (countDivider s).eiDelay = s.eiDelay := by
  unfold countDivider; split_ifs <;> simp

@[simp] theorem countDivider_cpu (s : State) :
    (countDivider s).cpu = s.cpu := by
  unfold countDivider; split_ifs <;> simp

@[simp] theorem countDivider_fault (s : State) :
    (countDivider s).fault = s.fault := by
  unfold countDivider; split_ifs <;> simp

@[simp] theorem countDivider_ie (s : State) :
    (countDivider s).ie = s.ie := by
  unfold countDivider; split_ifs <;> simp

@[simp] theorem countDivider_tma (s : State) :
    (countDivider s).tma = s.tma := by
  unfold countDivider; split_ifs <;> simp

@[simp] theorem countDivider_tac (s : State) :
    (countDivider s).tac = s.tac := by
  unfold countDivider; split_ifs <;> simp

@[simp] theorem countDivider_mem (s : State) :
    (countDivider s).mem = s.mem := by
  unfold countDivider; split_ifs <;> simp

@[simp] theorem countDivider_hookTrace (s : State) :
    (countDivider s).hookTrace = s.hookTrace := by
  unfold countDivider; split_ifs <;> simp

@[simp] theorem countDivider_breakpoints (s : State) :
    (countDivider s).breakpoints = s.breakpoints := by
  unfold countDivider; split_ifs <;> simp

@[simp] theorem countDivider_cancelFlag (s : State) :
    (countDivider s).cancelFlag = s.cancelFlag := by
  unfold countDivider; split_ifs <;> simp

@[simp] theorem countDivider_params (s : State) :
    (countDivider s).params = s.params := by
  unfold countDivider; split_ifs <;> simp

@[simp] theorem countDivider_ifl (s : State) :
    (countDivider s).ifl = s.ifl := by
  unfold countDivider; split_ifs <;> simp

@[simp] theorem tick1_a (s : State) :
    (tick1 s).a = s.a := by simp [tick1]

@[simp] theorem tick1_b (s : State) :
    (tick1 s).b = s.b := by simp [tick1]

@[simp] theorem tick1_c (s : State) :
    (tick1 s).c = s.c := by simp [tick1]

@[simp] theorem tick1_d (s : State) :
    (tick1 s).d = s.d := by simp [tick1]

@[simp] theorem tick1_e (s : State) :
    (tick1 s).e = s.e := by simp [tick1]

@[simp] theorem tick1_h (s : State) :
    (tick1 s).h = s.h := by simp [tick1]

@[simp] theorem tick1_l (s : State) :
    (tick1 s).l = s.l := by simp [tick1]

@[simp] theorem tick1_f (s : State) :
    (tick1 s).f = s.f := by simp [tick1]

@[simp] theorem tick1_sp (s : State) :
    (tick1 s).sp = s.sp := by simp [tick1]

@[simp] theorem tick1_pc (s : State) :
    (tick1 s).pc = s.pc := by simp [tick1]

@[simp] theorem tick1_ime (s : State) :
    (tick1 s).ime = s.ime := by simp [tick1]

@[simp] theorem tick1_eiDelay (s : State) :
    (tick1 s).eiDelay = s.eiDelay := by simp [tick1]

@[simp] theorem tick1_cpu (s : State) :
    (tick1 s).cpu = s.cpu := by simp [tick1]

@[simp] theorem tick1_fault (s : State) :
    (tick1 s).fault = s.fault := by simp [tick1]

@[simp] theorem tick1_ie (s : State) :
    (tick1 s).ie = s.ie := by simp [tick1]

@[simp] theorem tick1_tma (s : State) :
    (tick1 s).tma = s.tma := by simp [tick1]

@[simp] theorem tick1_tac (s : State) :
    (tick1 s).tac = s.tac := by simp [tick1]

@[simp] theorem tick1_mem (s : State) :
    (tick1 s).mem = s.mem := by simp [tick1]

@[simp] theorem tick1_hookTrace (s : State) :
    (tick1 s).hookTrace = s.hookTrace := by simp [tick1]

@[simp] theorem tick1_breakpoints (s : State) :
    (tick1 s).breakpoints = s.breakpoints := by simp [tick1]

@[simp] theorem tick1_cancelFlag (s : State) :
    (tick1 s).cancelFlag = s.cancelFlag := by simp [tick1]

@[simp] theorem tick1_params (s : State) :
    (tick1 s).params = s.params := by simp [tick1]

@[simp] theorem tick_a (n : Nat) (s : State) : (tick n s).a = s.a := by
  induction n generalizing s with
  | zero => rfl
  | succ n ih => rw [tick, ih, tick1_a]

@[simp] theorem tick_b (n : Nat) (s : State) : (tick n s).b = s.b := by
  induction n generalizing s with
  | zero => rfl
  | succ n ih => rw [tick, ih, tick1_b]

@[simp] theorem tick_c (n : Nat) (s : State) : (tick n s).c = s.c := by
  induction n generalizing s with
  | zero => rfl
  | succ n ih => rw [tick, ih, tick1_c]

@[simp] theorem tick_d (n : Nat) (s : State) : (tick n s).d = s.d := by
  induction n generalizing s with
  | zero => rfl
  | succ n ih => rw [tick, ih, tick1_d]

@[simp] theorem tick_e (n : Nat) (s : State) : (tick n s).e = s.e := by
  induction n generalizing s with
  | zero => rfl
  | succ n ih => rw [tick, ih, tick1_e]

@[simp] theorem tick_h (n : Nat) (s : State) : (tick n s).h = s.h := by
  induction n generalizing s with
  | zero => rfl
  | succ n ih => rw [tick, ih, tick1_h]

@[simp] theorem tick_l (n : Nat) (s : State) : (tick n s).l = s.l := by
  induction n generalizing s with
  | zero => rfl
  | succ n ih => rw [tick, ih, tick1_l]

@[simp] theorem tick_f (n : Nat) (s : State) : (tick n s).f = s.f := by
  induction n generalizing s with
  | zero => rfl
  | succ n ih => rw [tick, ih, tick1_f]

@[simp] theorem tick_sp (n : Nat) (s : State) : (tick n s).sp = s.sp := by
  induction n generalizing s with
  | zero => rfl
  | succ n ih => rw [tick, ih, tick1_sp]

@[simp] theorem tick_pc (n : Nat) (s : State) : (tick n s).pc = s.pc := by
  induction n generalizing s with
  | zero => rfl
  | succ n ih => rw [tick, ih, tick1_pc]

@[simp] theorem tick_ime (n : Nat) (s : State) : (tick n s).ime = s.ime := by
  induction n generalizing s with
  | zero => rfl
  | succ n ih => rw [tick, ih, tick1_ime]

@[simp] theorem tick_eiDelay (n : Nat) (s : State) : (tick n s).eiDelay = s.eiDelay := by
  induction n generalizing s with
  | zero => rfl
  | succ n ih => rw [tick, ih, tick1_eiDelay]

@[simp] theorem tick_cpu (n : Nat) (s : State) : (tick n s).cpu = s.cpu := by
  induction n generalizing s with
  | zero => rfl
  | succ n ih => rw [tick, ih, tick1_cpu]

@[simp] theorem tick_fault (n : Nat) (s : State) : (tick n s).fault = s.fault := by
  induction n generalizing s with
  | zero => rfl
  | succ n ih => rw [tick, ih, tick1_fault]

@[simp] theorem tick_ie (n : Nat) (s : State) : (tick n s).ie = s.ie := by
  induction n generalizing s with
  | zero => rfl
  | succ n ih => rw [tick, ih, tick1_ie]

@[simp] theorem tick_tma (n : Nat) (s : State) : (tick n s).tma = s.tma := by
  induction n generalizing s with
  | zero => rfl
  | succ n ih => rw [tick, ih, tick1_tma]

@[simp] theorem tick_tac (n : Nat) (s : State) : (tick n s).tac = s.tac := by
  induction n generalizing s with
  | zero => rfl
  | succ n ih => rw [tick, ih, tick1_tac]

@[simp] theorem tick_mem (n : Nat) (s : State) : (tick n s).mem = s.mem := by
  induction n generalizing s with
  | zero => rfl
  | succ n ih => rw [tick, ih, tick1_mem]

@[simp] theorem tick_hookTrace (n : Nat) (s : State) : (tick n s).hookTrace = s.hookTrace := by
  induction n generalizing s with
  | zero => rfl
  | succ n ih => rw [tick, ih, tick1_hookTrace]

@[simp] theorem tick_breakpoints (n : Nat) (s : State) : (tick n s).breakpoints = s.breakpoints := by
  induction n generalizing s with
  | zero => rfl
  | succ n ih => rw [tick, ih, tick1_breakpoints]

@[simp] theorem tick_cancelFlag (n : Nat) (s : State) : (tick n s).cancelFlag = s.cancelFlag := by
  induction n generalizing s with
  | zero => rfl
  | succ n ih => rw [tick, ih, tick1_cancelFlag]

@[simp] theorem tick_params (n : Nat) (s : State) : (tick n s).params = s.params := by
  induction n generalizing s with
  | zero => rfl
  | succ n ih => rw [tick, ih, tick1_params]

@[simp] theorem tick_reg (n : Nat) (s : State) (r : Reg) :
    (tick n s).reg r = s.reg r := by cases r <;> simp [State.reg]

/-! ## The engine: wake, the EI delay, the PC advance -/

@[simp] theorem wake_a (s : State) :
    (wake s).a = s.a := by
  unfold wake; split_ifs <;> rfl

@[simp] theorem wake_b (s : State) :
    (wake s).b = s.b := by
  unfold wake; split_ifs <;> rfl

@[simp] theorem wake_c (s : State) :
    (wake s).c = s.c := by
  unfold wake; split_ifs <;> rfl

@[simp] theorem wake_d (s : State) :
    (wake s).d = s.d := by
  unfold wake; split_ifs <;> rfl

@[simp] theorem wake_e (s : State) :
    (wake s).e = s.e := by
  unfold wake; split_ifs <;> rfl

@[simp] theorem wake_h (s : State) :
    (wake s).h = s.h := by
  unfold wake; split_ifs <;> rfl

@[simp] theorem wake_l (s : State) :
    (wake s).l = s.l := by
  unfold wake; split_ifs <;> rfl

@[simp] theorem wake_f (s : State) :
    (wake s).f = s.f := by
  unfold wake; split_ifs <;> rfl

@[simp] theorem wake_sp (s : State) :
    (wake s).sp = s.sp := by
  unfold wake; split_ifs <;> rfl

@[simp] theorem wake_pc (s : State) :
    (wake s).pc = s.pc := by
  unfold wake; split_ifs <;> rfl

@[simp] theorem wake_ime (s : State) :
    (wake s).ime = s.ime := by
  unfold wake; split_ifs <;> rfl

@[simp] theorem wake_eiDelay (s : State) :
    (wake s).eiDelay = s.eiDelay := by
  unfold wake; split_ifs <;> rfl

@[simp] theorem wake_fault (s : State) :
    (wake s).fault = s.fault := by
  unfold wake; split_ifs <;> rfl

@[simp] theorem wake_ie (s : State) :
    (wake s).ie = s.ie := by
  unfold wake; split_ifs <;> rfl

@[simp] theorem wake_ifl (s : State) :
    (wake s).ifl = s.ifl := by
  unfold wake; split_ifs <;> rfl

@[simp] theorem wake_div16 (s : State) :
    (wake s).div16 = s.div16 := by
  unfold wake; split_ifs <;> rfl

@[simp] theorem wake_tima (s : State) :
    (wake s).tima = s.tima := by
  unfold wake; split_ifs <;> rfl

@[simp] theorem wake_tma (s : State) :
    (wake s).tma = s.tma := by
  unfold wake; split_ifs <;> rfl

@[simp] theorem wake_tac (s : State) :
    (wake s).tac = s.tac := by
  unfold wake; split_ifs <;> rfl

@[simp] theorem wake_reloadPending (s : State) :
    (wake s).reloadPending = s.reloadPending := by
  unfold wake; split_ifs <;> rfl

@[simp] theorem wake_mem (s : State) :
    (wake s).mem = s.mem := by
  unfold wake; split_ifs <;> rfl

@[simp] theorem wake_hookTrace (s : State) :
    (wake s).hookTrace = s.hookTrace := by
  unfold wake; split_ifs <;> rfl

@[simp] theorem wake_breakpoints (s : State) :
    (wake s).breakpoints = s.breakpoints := by
  unfold wake; split_ifs <;> rfl

@[simp] theorem wake_cancelFlag (s : State) :
    (wake s).cancelFlag = s.cancelFlag := by
  unfold wake; split_ifs <;> rfl

@[simp] theorem wake_params (s : State) :
    (wake s).params = s.params := by
  unfold wake; split_ifs <;> rfl

@[simp] theorem applyEiDelay_a (s : State) :
    (applyEiDelay s).a = s.a := by
  unfold applyEiDelay; split_ifs <;> rfl

@[simp] theorem applyEiDelay_b (s : State) :
    (applyEiDelay s).b = s.b := by
  unfold applyEiDelay; split_ifs <;> rfl

@[simp] theorem applyEiDelay_c (s : State) :
    (applyEiDelay s).c = s.c := by
  unfold applyEiDelay; split_ifs <;> rfl

@[simp] theorem applyEiDelay_d (s : State) :
    (applyEiDelay s).d = s.d := by
  unfold applyEiDelay; split_ifs <;> rfl

@[simp] theorem applyEiDelay_e (s : State) :
    (applyEiDelay s).e = s.e := by
  unfold applyEiDelay; split_ifs <;> rfl

@[simp] theorem applyEiDelay_h (s : State) :
    (applyEiDelay s).h = s.h := by
  unfold applyEiDelay; split_ifs <;> rfl

@[simp] theorem applyEiDelay_l (s : State) :
    (applyEiDelay s).l = s.l := by
  unfold applyEiDelay; split_ifs <;> rfl

@[simp] theorem applyEiDelay_f (s : State) :
    (applyEiDelay s).f = s.f := by
  unfold applyEiDelay; split_ifs <;> rfl

@[simp] theorem applyEiDelay_sp (s : State) :
    (applyEiDelay s).sp = s.sp := by
  unfold applyEiDelay; split_ifs <;> rfl

@[simp] theorem applyEiDelay_pc (s : State) :
    (applyEiDelay s).pc = s.pc := by
  unfold applyEiDelay; split_ifs <;> rfl

@[simp] theorem applyEiDelay_cpu (s : State) :
    (applyEiDelay s).cpu = s.cpu := by
  unfold applyEiDelay; split_ifs <;> rfl

@[simp] theorem applyEiDelay_fault (s : State) :
    (applyEiDelay s).fault = s.fault := by
  unfold applyEiDelay; split_ifs <;> rfl

@[simp] theorem applyEiDelay_ie (s : State) :
    (applyEiDelay s).ie = s.ie := by
  unfold applyEiDelay; split_ifs <;> rfl

@[simp] theorem applyEiDelay_ifl (s : State) :
    (applyEiDelay s).ifl = s.ifl := by
  unfold applyEiDelay; split_ifs <;> rfl

@[simp] theorem applyEiDelay_div16 (s : State) :
    (applyEiDelay s).div16 = s.div16 := by
  unfold applyEiDelay; split_ifs <;> rfl

@[simp] theorem applyEiDelay_tima (s : State) :
    (applyEiDelay s).tima = s.tima := by
  unfold applyEiDelay; split_ifs <;> rfl

@[simp] theorem applyEiDelay_tma (s : State) :
    (applyEiDelay s).tma = s.tma := by
  unfold applyEiDelay; split_ifs <;> rfl

@[simp] theorem applyEiDelay_tac (s : State) :
    (applyEiDelay s).tac = s.tac := by
  unfold applyEiDelay; split_ifs <;> rfl

@[simp] theorem applyEiDelay_reloadPending (s : State) :
    (applyEiDelay s).reloadPending = s.reloadPending := by
  unfold applyEiDelay; split_ifs <;> rfl

@[simp] theorem applyEiDelay_mem (s : State) :
    (applyEiDelay s).mem = s.mem := by
  unfold applyEiDelay; split_ifs <;> rfl

@[simp] theorem applyEiDelay_hookTrace (s : State) :
    (applyEiDelay s).hookTrace = s.hookTrace := by
  unfold applyEiDelay; split_ifs <;> rfl

@[simp] theorem applyEiDelay_breakpoints (s : State) :
    (applyEiDelay s).breakpoints = s.breakpoints := by
  unfold applyEiDelay; split_ifs <;> rfl

@[simp] theorem applyEiDelay_cancelFlag (s : State) :
    (applyEiDelay s).cancelFlag = s.cancelFlag := by
  unfold applyEiDelay; split_ifs <;> rfl

@[simp] theorem applyEiDelay_params (s : State) :
    (applyEiDelay s).params = s.params := by
  unfold applyEiDelay; split_ifs <;> rfl

@[simp] theorem applyEiDelay_ime (s : State) :
    (applyEiDelay s).ime = (s.ime || s.eiDelay) := by
  unfold applyEiDelay; split_ifs <;> simp_all

@[simp] theorem applyEiDelay_eiDelay (s : State) :
    (applyEiDelay s).eiDelay = false := by
  unfold applyEiDelay; split_ifs <;> simp_all

@[simp] theorem advancePC_a (s : State) (n : Nat) :
    (advancePC n s).a = s.a := rfl

@[simp] theorem advancePC_b (s : State) (n : Nat) :
    (advancePC n s).b = s.b := rfl

@[simp] theorem advancePC_c (s : State) (n : Nat) :
    (advancePC n s).c = s.c := rfl

@[simp] theorem advancePC_d (s : State) (n : Nat) :
    (advancePC n s).d = s.d := rfl

@[simp] theorem advancePC_e (s : State) (n : Nat) :
    (advancePC n s).e = s.e := rfl

@[simp] theorem advancePC_h (s : State) (n : Nat) :
    (advancePC n s).h = s.h := rfl

@[simp] theorem advancePC_l (s : State) (n : Nat) :
    (advancePC n s).l = s.l := rfl

@[simp] theorem advancePC_f (s : State) (n : Nat) :
    (advancePC n s).f = s.f := rfl

@[simp] theorem advancePC_sp (s : State) (n : Nat) :
    (advancePC n s).sp = s.sp := rfl

@[simp] theorem advancePC_ime (s : State) (n : Nat) :
    (advancePC n s).ime = s.ime := rfl

@[simp] theorem advancePC_eiDelay (s : State) (n : Nat) :
    (advancePC n s).eiDelay = s.eiDelay := rfl

@[simp] theorem advancePC_cpu (s : State) (n : Nat) :
    (advancePC n s).cpu = s.cpu := rfl

@[simp] theorem advancePC_fault (s : State) (n : Nat) :
    (advancePC n s).fault = s.fault := rfl

@[simp] theorem advancePC_ie (s : State) (n : Nat) :
    (advancePC n s).ie = s.ie := rfl

@[simp] theorem advancePC_ifl (s : State) (n : Nat) :
    (advancePC n s).ifl = s.ifl := rfl

@[simp] theorem advancePC_div16 (s : State) (n : Nat) :
    (advancePC n s).div16 = s.div16 := rfl

@[simp] theorem advancePC_tima (s : State) (n : Nat) :
    (advancePC n s).tima = s.tima := rfl

@[simp] theorem advancePC_tma (s : State) (n : Nat) :
    (advancePC n s).tma = s.tma := rfl

@[simp] theorem advancePC_tac (s : State) (n : Nat) :
    (advancePC n s).tac = s.tac := rfl

@[simp] theorem advancePC_reloadPending (s : State) (n : Nat) :
    (advancePC n s).reloadPending = s.reloadPending := rfl

@[simp] theorem advancePC_mem (s : State) (n : Nat) :
    (advancePC n s).mem = s.mem := rfl

@[simp] theorem advancePC_hookTrace (s : State) (n : Nat) :
    (advancePC n s).hookTrace = s.hookTrace := rfl

@[simp] theorem advancePC_breakpoints (s : State) (n : Nat) :
    (advancePC n s).breakpoints = s.breakpoints := rfl

@[simp] theorem advancePC_cancelFlag (s : State) (n : Nat) :
    (advancePC n s).cancelFlag = s.cancelFlag := rfl

@[simp] theorem advancePC_params (s : State) (n : Nat) :
    (advancePC n s).params = s.params := rfl

@[simp] theorem advancePC_pc (s : State) (n : Nat) :
    (advancePC n s).pc = s.pc + BitVec.ofNat 16 n := rfl

end Sys2Proof.Machine
end

