-- ==== Sys2Proof/Laws/Bus.lean ====
section
/-! SUPPORT. The address map and the two bus primitives: which addresses have storage, and read after write. -/

namespace Sys2Proof.Machine

/-! ## The address map -/

theorem ramTarget_ne_rom (p : Params) (a k : Nat) : ramTarget p a ≠ .rom k := by
  unfold ramTarget
  split_ifs <;> simp

theorem ioTarget_ne_rom (p : Params) (addr : Word) (k : Nat) : ioTarget p addr ≠ .rom k := by
  unfold ioTarget
  split_ifs <;> simp

theorem topTarget_ne_rom (p : Params) (addr : Word) (k : Nat) : topTarget p addr ≠ .rom k := by
  unfold topTarget
  split_ifs <;> simp [ioTarget_ne_rom]

theorem busTarget_rom_iff (p : Params) (addr : Word) (k : Nat) :
    busTarget p addr = .rom k ↔ addr.toNat = k ∧ k ≤ 0x7FFF := by
  unfold busTarget
  split_ifs with h1 h2
  · simp only [BusTarget.rom.injEq]
    omega
  · simp only [ramTarget_ne_rom, false_iff]
    omega
  · simp only [topTarget_ne_rom, false_iff]
    omega

theorem busTarget_below (p : Params) {addr : Word} (h : addr.toNat ≤ 0x7FFF) : busTarget p addr = .rom addr.toNat := by
  rw [busTarget_rom_iff]
  exact ⟨rfl, h⟩

/-- The decision list of R52 and R53 in one chain. -/
theorem busTarget_chain (p : Params) (addr : Word) : busTarget p addr =
      if addr.toNat ≤ 0x7FFF then .rom addr.toNat
      else if addr.toNat ≤ 0x9FFF then .ram addr.toNat
      else if addr.toNat ≤ 0xBFFF then (if p.extramPresent then .ram addr.toNat else .unmapped)
      else if addr.toNat ≤ 0xDFFF then .ram addr.toNat
      else if addr.toNat ≤ 0xFDFF then .ram (addr.toNat - 0x2000)
      else if addr.toNat ≤ 0xFE9F then .ram addr.toNat
      else if addr.toNat ≤ 0xFEFF then .unmapped
      else if addr = 0xFF04 then .div
      else if addr = 0xFF05 then .tima
      else if addr = 0xFF06 then .tma
      else if addr = 0xFF07 then .tac
      else if addr = 0xFF0F then .iflag
      else if addr.toNat ≤ 0xFF7F then (if p.hooked.contains addr then .hook addr else .ram addr.toNat)
      else if addr.toNat ≤ 0xFFFE then .ram addr.toNat else .ie := by
  unfold busTarget ramTarget topTarget ioTarget
  by_cases h1 : addr.toNat ≤ 0x7FFF
  · simp only [if_pos h1]
  rw [if_neg h1, if_neg h1]
  by_cases h2 : addr.toNat ≤ 0xFDFF
  · rw [if_pos h2]
    by_cases h3 : addr.toNat ≤ 0x9FFF
    · simp only [if_pos h3]
    rw [if_neg h3, if_neg h3]
    by_cases h4 : addr.toNat ≤ 0xBFFF
    · simp only [if_pos h4]
    rw [if_neg h4, if_neg h4]
    by_cases h5 : addr.toNat ≤ 0xDFFF
    · simp only [if_pos h5]
    rw [if_neg h5, if_neg h5, if_pos h2]
  rw [if_neg h2]
  have g1 : ¬addr.toNat ≤ 0x9FFF := by omega
  have g2 : ¬addr.toNat ≤ 0xBFFF := by omega
  have g3 : ¬addr.toNat ≤ 0xDFFF := by omega
  rw [if_neg g1, if_neg g2, if_neg g3, if_neg h2]
  by_cases h6 : addr.toNat ≤ 0xFE9F
  · simp only [if_pos h6]
  rw [if_neg h6, if_neg h6]
  by_cases h7 : addr.toNat ≤ 0xFEFF
  · simp only [if_pos h7]
  rw [if_neg h7, if_neg h7]
  by_cases h8 : addr.toNat ≤ 0xFF7F
  · simp only [if_pos h8]
  rw [if_neg h8]
  have ne : ∀ k : Word, k.toNat ≤ 0xFF7F → addr ≠ k := by rintro k hk rfl; omega
  rw [if_neg (ne _ (by decide)), if_neg (ne _ (by decide)), if_neg (ne _ (by decide)), if_neg (ne _ (by decide)), if_neg (ne _ (by decide)), if_neg h8]

theorem ramTarget_canonical {p : Params} {a k : Nat} (h1 : 0x7FFF < a) (h2 : a ≤ 0xFDFF)
    (h : ramTarget p a = .ram k) : 0x8000 ≤ k ∧ k ≤ 0xDFFF ∧ ramTarget p k = .ram k := by
  unfold ramTarget at h
  split_ifs at h with ha hb hc hd <;> simp only [BusTarget.ram.injEq] at h <;> subst h
  · exact ⟨by omega, by omega, by rw [ramTarget, if_pos ha]⟩
  · exact ⟨by omega, by omega, by rw [ramTarget, if_neg ha, if_pos hb, if_pos hc]⟩
  · exact ⟨by omega, by omega, by rw [ramTarget, if_neg ha, if_neg hb, if_pos hd]⟩
  · refine ⟨by omega, by omega, ?_⟩
    rw [ramTarget, if_neg (by omega), if_neg (by omega), if_pos (by omega)]

theorem ioTarget_ram {p : Params} {addr : Word} {k : Nat} (h : ioTarget p addr = .ram k) : k = addr.toNat := by
  unfold ioTarget at h
  split_ifs at h
  cases h
  rfl

theorem topTarget_ram {p : Params} {addr : Word} {k : Nat} (h : topTarget p addr = .ram k) : k = addr.toNat := by
  unfold topTarget at h
  split_ifs at h
  · cases h
    rfl
  · exact ioTarget_ram h
  · cases h
    rfl

/-- A storage address is its own storage address, and is no address of the ROM. -/
theorem busTarget_ram_canonical {p : Params} {addr : Word} {k : Nat} (h : busTarget p addr = .ram k) :
    0x8000 ≤ k ∧ k < 65536 ∧ busTarget p (BitVec.ofNat 16 k) = .ram k := by
  have hlt := addr.isLt
  have hh := h
  unfold busTarget at h
  split_ifs at h with h1 h2
  · obtain ⟨hl, hu, hr⟩ := ramTarget_canonical (by omega) h2 h
    have hk : (BitVec.ofNat 16 k).toNat = k := by
      rw [BitVec.toNat_ofNat]
      omega
    refine ⟨hl, by omega, ?_⟩
    unfold busTarget
    rw [hk, if_neg (by omega), if_pos (by omega), hr]
  · have hk := topTarget_ram h
    subst hk
    refine ⟨by omega, hlt, ?_⟩
    rw [BitVec.ofNat_toNat, BitVec.setWidth_eq]
    exact hh

theorem isRamAddress_of_ram {p : Params} {addr : Word} {k : Nat} (h : busTarget p addr = .ram k) :
    isRamAddress p k = true := by
  have := busTarget_ram_canonical h
  simp [isRamAddress, this]

theorem isRamAddress_ge {p : Params} {k : Nat} (h : isRamAddress p k = true) : 0x8000 ≤ k ∧ k < 65536 := by
  simp only [isRamAddress, Bool.and_eq_true, decide_eq_true_eq] at h
  exact ⟨(busTarget_ram_canonical h.2).1, h.1⟩

/-! ## Read after write -/

/-- A read depends only on memory, the bus registers, the hook trace and the parameters. -/
theorem memRead_congr {s t : State} (hp : t.params = s.params) (hm : t.mem = s.mem) (hd : t.div16 = s.div16)
    (hti : t.tima = s.tima) (htm : t.tma = s.tma) (hta : t.tac = s.tac) (hif : t.ifl = s.ifl) (hie : t.ie = s.ie)
    (hh : t.hookTrace = s.hookTrace) (addr : Word) : memRead t addr = memRead s addr := by
  unfold memRead
  rw [hp, hm, hd, hti, htm, hta, hif, hie, hh]

/-- A read of a ROM address (R43). -/
theorem memRead_of_rom (s : State) {addr : Word} (h : addr.toNat ≤ 0x7FFF) :
    memRead s addr = Memory.read s.mem addr.toNat := by
  unfold memRead
  rw [busTarget_below _ h]

/-- A read of an address of plain storage. -/
theorem memRead_of_ram {s : State} {addr : Word} {k : Nat} (h : busTarget s.params addr = .ram k) :
    memRead s addr = Memory.read s.mem k := by
  unfold memRead
  rw [h]

/-- A read elsewhere does not see a write: no other bus target is reached. -/
theorem memRead_memWrite_other (s : State) {x addr : Word} (v : Byte) (h : storeReaches s.params x addr = false) :
    memRead (memWrite s x v) addr = memRead s addr := by
  have hp := memWrite_params s x v
  unfold memRead
  rw [hp]
  unfold storeReaches at h
  unfold memWrite
  cases hx : busTarget s.params x <;> cases ha : busTarget s.params addr <;>
    simp_all
  case ram.rom k1 k2 =>
    have h1 := busTarget_ram_canonical hx
    have h2 := (busTarget_rom_iff _ _ _).1 ha
    exact Memory.read_write_other _ _ (by omega)
  case ram.ram k1 k2 => exact Memory.read_write_other _ _ fun he => h he.symm

/-- What a written address then reads as, by what it selects (spec/20_memory.md R49, R52, R53). -/
theorem memRead_memWrite_same (s : State) (x : Word) (v : Byte) :
    memRead (memWrite s x v) x =
      match busTarget s.params x with
      | .rom k => Memory.read s.mem k
      | .ram _ => v
      | .unmapped => 0xFF
      | .div => 0x00
      | .tima => v
      | .tma => v
      | .tac => 0xF8 ||| (v.truncate 3 : BitVec 3).zeroExtend 8
      | .iflag => 0xE0 ||| (v.truncate 5 : BitVec 5).zeroExtend 8
      | .ie => v
      | .hook a => Config.hookRead (s.hookTrace ++ [.write a v]) a := by
  have hp := memWrite_params s x v
  unfold memRead
  rw [hp]
  unfold memWrite
  cases hx : busTarget s.params x <;> simp
  rfl

/-- A write to a ROM address changes nothing (spec/20_memory.md R43). -/
theorem memWrite_rom (s : State) {x : Word} (v : Byte) (h : x.toNat ≤ 0x7FFF) : memWrite s x v = s := by
  unfold memWrite
  rw [busTarget_below _ h]

/-- No write changes what a ROM address reads as. -/
theorem memRead_memWrite_of_rom (s : State) (x : Word) (v : Byte) {addr : Word} (h : addr.toNat ≤ 0x7FFF) :
    memRead (memWrite s x v) addr = memRead s addr := by
  by_cases hx : storeReaches s.params x addr = false
  · exact memRead_memWrite_other s v hx
  · have hr := busTarget_below s.params h
    unfold storeReaches at hx
    rw [hr] at hx
    have hxr : busTarget s.params x = .rom addr.toNat := by
      cases hb : busTarget s.params x <;> simp_all
    rw [busTarget_rom_iff] at hxr
    rw [memWrite_rom s v (by omega)]

/-! ## Memory keeps its form -/

theorem memWrite_mem_wf (s : State) (x : Word) (v : Byte) (h : Memory.wf s.mem = true) :
    Memory.wf (memWrite s x v).mem = true := by
  unfold memWrite
  split <;> first | exact h | exact Memory.wf_write _ _ h

theorem memWrite_mem_backed (s : State) (x : Word) (v : Byte) (h : ∀ c ∈ s.mem, isBacked s.params c.1 = true) :
    ∀ c ∈ (memWrite s x v).mem, isBacked s.params c.1 = true := by
  unfold memWrite
  split <;> try exact h
  rename_i k hk
  intro c hc
  rcases Memory.mem_write hc with rfl | hc
  · simp [isBacked, isRamAddress_of_ram hk]
  · exact h c hc

end Sys2Proof.Machine
end

