-- ==== Sys2Proof/Laws/Exec.lean ====
section
/-! SUPPORT. Every instruction is one form of a family (`Instr.form`), and what `exec` answers for each form: a case split
over the instructions is a split over these forms, and each is one shared operation of Machine/<Family>.lean. -/

-- The many cases of this file are elaborated one after another.
set_option Elab.async false

namespace Sys2Proof.Laws

open Sys2Proof.Machine

/-- The forms: a family of the opcode maps with its operands, or an instruction on its own. -/
inductive InstrForm : Instr → Prop where
  | ldPairImm (p : Pair) (v : Word) : InstrForm (Form.ldPairImm p v)
  | incPair (p : Pair) : InstrForm (Form.incPair p)
  | inc (o : Operand8) : InstrForm (Form.inc o)
  | dec (o : Operand8) : InstrForm (Form.dec o)
  | ldRegImm (dst : Reg) (v : Byte) : InstrForm (Form.ldRegImm dst v)
  | addHL (p : Pair) : InstrForm (Form.addHL p)
  | decPair (p : Pair) : InstrForm (Form.decPair p)
  | jrCond (cc : Cond) (r8 : Byte) : InstrForm (Form.jrCond cc r8)
  | ldRegReg (dst src : Reg) : InstrForm (Form.ldRegReg dst src)
  | ldRegAtHL (dst : Reg) : InstrForm (Form.ldRegAtHL dst)
  | ldAtHLReg (src : Reg) : InstrForm (Form.ldAtHLReg src)
  | alu (op : AluOp) (o : Operand8) : InstrForm (Form.alu op o)
  | retCond (cc : Cond) : InstrForm (Form.retCond cc)
  | pop (p : StackPair) : InstrForm (Form.pop p)
  | jpCond (cc : Cond) (a16 : Word) : InstrForm (Form.jpCond cc a16)
  | callCond (cc : Cond) (a16 : Word) : InstrForm (Form.callCond cc a16)
  | push (p : StackPair) : InstrForm (Form.push p)
  | aluImm (op : AluOp) (v : Byte) : InstrForm (Form.aluImm op v)
  | rst (t : Fin 8) : InstrForm (Form.rst t)
  | shift (op : ShiftOp) (o : Operand8) : InstrForm (Form.shift op o)
  | bit (bit : Fin 8) (o : Operand8) : InstrForm (Form.bit bit o)
  | res (bit : Fin 8) (o : Operand8) : InstrForm (Form.res bit o)
  | set (bit : Fin 8) (o : Operand8) : InstrForm (Form.set bit o)
  | nop : InstrForm (.nop)
  | ld_atBC_A : InstrForm (.ld_atBC_A)
  | rlca : InstrForm (.rlca)
  | ld_atA16_SP (a16 : Word) : InstrForm (.ld_atA16_SP a16)
  | ld_A_atBC : InstrForm (.ld_A_atBC)
  | rrca : InstrForm (.rrca)
  | stop (pad : Byte) : InstrForm (.stop pad)
  | ld_atDE_A : InstrForm (.ld_atDE_A)
  | rla : InstrForm (.rla)
  | jr_r8 (r8 : Byte) : InstrForm (.jr_r8 r8)
  | ld_A_atDE : InstrForm (.ld_A_atDE)
  | rra : InstrForm (.rra)
  | ld_atHLI_A : InstrForm (.ld_atHLI_A)
  | daa : InstrForm (.daa)
  | ld_A_atHLI : InstrForm (.ld_A_atHLI)
  | cpl : InstrForm (.cpl)
  | ld_atHLD_A : InstrForm (.ld_atHLD_A)
  | ld_atHL_d8 (d8 : Byte) : InstrForm (.ld_atHL_d8 d8)
  | scf : InstrForm (.scf)
  | ld_A_atHLD : InstrForm (.ld_A_atHLD)
  | ccf : InstrForm (.ccf)
  | halt : InstrForm (.halt)
  | jp_a16 (a16 : Word) : InstrForm (.jp_a16 a16)
  | ret : InstrForm (.ret)
  | call_a16 (a16 : Word) : InstrForm (.call_a16 a16)
  | undefined (opcode : Byte) : InstrForm (.undefined opcode)
  | reti : InstrForm (.reti)
  | ldh_atA8_A (a8 : Byte) : InstrForm (.ldh_atA8_A a8)
  | ld_atC_A : InstrForm (.ld_atC_A)
  | add_SP_r8 (r8 : Byte) : InstrForm (.add_SP_r8 r8)
  | jp_HL : InstrForm (.jp_HL)
  | ld_atA16_A (a16 : Word) : InstrForm (.ld_atA16_A a16)
  | ldh_A_atA8 (a8 : Byte) : InstrForm (.ldh_A_atA8 a8)
  | ld_A_atC : InstrForm (.ld_A_atC)
  | di : InstrForm (.di)
  | ld_HL_SPr8 (r8 : Byte) : InstrForm (.ld_HL_SPr8 r8)
  | ld_SP_HL : InstrForm (.ld_SP_HL)
  | ld_A_atA16 (a16 : Word) : InstrForm (.ld_A_atA16 a16)
  | ei : InstrForm (.ei)

/-- The form of an instruction. -/
theorem Instr.form (i : Instr) : InstrForm i :=
  match i with
  | .nop => .nop
  | .ld_BC_d16 d16 => .ldPairImm .bc d16
  | .ld_atBC_A => .ld_atBC_A
  | .inc_BC => .incPair .bc
  | .inc_B => .inc (.reg .b)
  | .dec_B => .dec (.reg .b)
  | .ld_B_d8 d8 => .ldRegImm .b d8
  | .rlca => .rlca
  | .ld_atA16_SP a16 => .ld_atA16_SP a16
  | .add_HL_BC => .addHL .bc
  | .ld_A_atBC => .ld_A_atBC
  | .dec_BC => .decPair .bc
  | .inc_C => .inc (.reg .c)
  | .dec_C => .dec (.reg .c)
  | .ld_C_d8 d8 => .ldRegImm .c d8
  | .rrca => .rrca
  | .stop pad => .stop pad
  | .ld_DE_d16 d16 => .ldPairImm .de d16
  | .ld_atDE_A => .ld_atDE_A
  | .inc_DE => .incPair .de
  | .inc_D => .inc (.reg .d)
  | .dec_D => .dec (.reg .d)
  | .ld_D_d8 d8 => .ldRegImm .d d8
  | .rla => .rla
  | .jr_r8 r8 => .jr_r8 r8
  | .add_HL_DE => .addHL .de
  | .ld_A_atDE => .ld_A_atDE
  | .dec_DE => .decPair .de
  | .inc_E => .inc (.reg .e)
  | .dec_E => .dec (.reg .e)
  | .ld_E_d8 d8 => .ldRegImm .e d8
  | .rra => .rra
  | .jr_NZ_r8 r8 => .jrCond .nz r8
  | .ld_HL_d16 d16 => .ldPairImm .hl d16
  | .ld_atHLI_A => .ld_atHLI_A
  | .inc_HL => .incPair .hl
  | .inc_H => .inc (.reg .h)
  | .dec_H => .dec (.reg .h)
  | .ld_H_d8 d8 => .ldRegImm .h d8
  | .daa => .daa
  | .jr_Z_r8 r8 => .jrCond .z r8
  | .add_HL_HL => .addHL .hl
  | .ld_A_atHLI => .ld_A_atHLI
  | .dec_HL => .decPair .hl
  | .inc_L => .inc (.reg .l)
  | .dec_L => .dec (.reg .l)
  | .ld_L_d8 d8 => .ldRegImm .l d8
  | .cpl => .cpl
  | .jr_NC_r8 r8 => .jrCond .nc r8
  | .ld_SP_d16 d16 => .ldPairImm .sp d16
  | .ld_atHLD_A => .ld_atHLD_A
  | .inc_SP => .incPair .sp
  | .inc_atHL => .inc .atHL
  | .dec_atHL => .dec .atHL
  | .ld_atHL_d8 d8 => .ld_atHL_d8 d8
  | .scf => .scf
  | .jr_C_r8 r8 => .jrCond .c r8
  | .add_HL_SP => .addHL .sp
  | .ld_A_atHLD => .ld_A_atHLD
  | .dec_SP => .decPair .sp
  | .inc_A => .inc (.reg .a)
  | .dec_A => .dec (.reg .a)
  | .ld_A_d8 d8 => .ldRegImm .a d8
  | .ccf => .ccf
  | .ld_B_B => .ldRegReg .b .b
  | .ld_B_C => .ldRegReg .b .c
  | .ld_B_D => .ldRegReg .b .d
  | .ld_B_E => .ldRegReg .b .e
  | .ld_B_H => .ldRegReg .b .h
  | .ld_B_L => .ldRegReg .b .l
  | .ld_B_atHL => .ldRegAtHL .b
  | .ld_B_A => .ldRegReg .b .a
  | .ld_C_B => .ldRegReg .c .b
  | .ld_C_C => .ldRegReg .c .c
  | .ld_C_D => .ldRegReg .c .d
  | .ld_C_E => .ldRegReg .c .e
  | .ld_C_H => .ldRegReg .c .h
  | .ld_C_L => .ldRegReg .c .l
  | .ld_C_atHL => .ldRegAtHL .c
  | .ld_C_A => .ldRegReg .c .a
  | .ld_D_B => .ldRegReg .d .b
  | .ld_D_C => .ldRegReg .d .c
  | .ld_D_D => .ldRegReg .d .d
  | .ld_D_E => .ldRegReg .d .e
  | .ld_D_H => .ldRegReg .d .h
  | .ld_D_L => .ldRegReg .d .l
  | .ld_D_atHL => .ldRegAtHL .d
  | .ld_D_A => .ldRegReg .d .a
  | .ld_E_B => .ldRegReg .e .b
  | .ld_E_C => .ldRegReg .e .c
  | .ld_E_D => .ldRegReg .e .d
  | .ld_E_E => .ldRegReg .e .e
  | .ld_E_H => .ldRegReg .e .h
  | .ld_E_L => .ldRegReg .e .l
  | .ld_E_atHL => .ldRegAtHL .e
  | .ld_E_A => .ldRegReg .e .a
  | .ld_H_B => .ldRegReg .h .b
  | .ld_H_C => .ldRegReg .h .c
  | .ld_H_D => .ldRegReg .h .d
  | .ld_H_E => .ldRegReg .h .e
  | .ld_H_H => .ldRegReg .h .h
  | .ld_H_L => .ldRegReg .h .l
  | .ld_H_atHL => .ldRegAtHL .h
  | .ld_H_A => .ldRegReg .h .a
  | .ld_L_B => .ldRegReg .l .b
  | .ld_L_C => .ldRegReg .l .c
  | .ld_L_D => .ldRegReg .l .d
  | .ld_L_E => .ldRegReg .l .e
  | .ld_L_H => .ldRegReg .l .h
  | .ld_L_L => .ldRegReg .l .l
  | .ld_L_atHL => .ldRegAtHL .l
  | .ld_L_A => .ldRegReg .l .a
  | .ld_atHL_B => .ldAtHLReg .b
  | .ld_atHL_C => .ldAtHLReg .c
  | .ld_atHL_D => .ldAtHLReg .d
  | .ld_atHL_E => .ldAtHLReg .e
  | .ld_atHL_H => .ldAtHLReg .h
  | .ld_atHL_L => .ldAtHLReg .l
  | .halt => .halt
  | .ld_atHL_A => .ldAtHLReg .a
  | .ld_A_B => .ldRegReg .a .b
  | .ld_A_C => .ldRegReg .a .c
  | .ld_A_D => .ldRegReg .a .d
  | .ld_A_E => .ldRegReg .a .e
  | .ld_A_H => .ldRegReg .a .h
  | .ld_A_L => .ldRegReg .a .l
  | .ld_A_atHL => .ldRegAtHL .a
  | .ld_A_A => .ldRegReg .a .a
  | .add_A_B => .alu .add (.reg .b)
  | .add_A_C => .alu .add (.reg .c)
  | .add_A_D => .alu .add (.reg .d)
  | .add_A_E => .alu .add (.reg .e)
  | .add_A_H => .alu .add (.reg .h)
  | .add_A_L => .alu .add (.reg .l)
  | .add_A_atHL => .alu .add .atHL
  | .add_A_A => .alu .add (.reg .a)
  | .adc_A_B => .alu .adc (.reg .b)
  | .adc_A_C => .alu .adc (.reg .c)
  | .adc_A_D => .alu .adc (.reg .d)
  | .adc_A_E => .alu .adc (.reg .e)
  | .adc_A_H => .alu .adc (.reg .h)
  | .adc_A_L => .alu .adc (.reg .l)
  | .adc_A_atHL => .alu .adc .atHL
  | .adc_A_A => .alu .adc (.reg .a)
  | .sub_B => .alu .sub (.reg .b)
  | .sub_C => .alu .sub (.reg .c)
  | .sub_D => .alu .sub (.reg .d)
  | .sub_E => .alu .sub (.reg .e)
  | .sub_H => .alu .sub (.reg .h)
  | .sub_L => .alu .sub (.reg .l)
  | .sub_atHL => .alu .sub .atHL
  | .sub_A => .alu .sub (.reg .a)
  | .sbc_A_B => .alu .sbc (.reg .b)
  | .sbc_A_C => .alu .sbc (.reg .c)
  | .sbc_A_D => .alu .sbc (.reg .d)
  | .sbc_A_E => .alu .sbc (.reg .e)
  | .sbc_A_H => .alu .sbc (.reg .h)
  | .sbc_A_L => .alu .sbc (.reg .l)
  | .sbc_A_atHL => .alu .sbc .atHL
  | .sbc_A_A => .alu .sbc (.reg .a)
  | .and_B => .alu .and (.reg .b)
  | .and_C => .alu .and (.reg .c)
  | .and_D => .alu .and (.reg .d)
  | .and_E => .alu .and (.reg .e)
  | .and_H => .alu .and (.reg .h)
  | .and_L => .alu .and (.reg .l)
  | .and_atHL => .alu .and .atHL
  | .and_A => .alu .and (.reg .a)
  | .xor_B => .alu .xor (.reg .b)
  | .xor_C => .alu .xor (.reg .c)
  | .xor_D => .alu .xor (.reg .d)
  | .xor_E => .alu .xor (.reg .e)
  | .xor_H => .alu .xor (.reg .h)
  | .xor_L => .alu .xor (.reg .l)
  | .xor_atHL => .alu .xor .atHL
  | .xor_A => .alu .xor (.reg .a)
  | .or_B => .alu .or (.reg .b)
  | .or_C => .alu .or (.reg .c)
  | .or_D => .alu .or (.reg .d)
  | .or_E => .alu .or (.reg .e)
  | .or_H => .alu .or (.reg .h)
  | .or_L => .alu .or (.reg .l)
  | .or_atHL => .alu .or .atHL
  | .or_A => .alu .or (.reg .a)
  | .cp_B => .alu .cp (.reg .b)
  | .cp_C => .alu .cp (.reg .c)
  | .cp_D => .alu .cp (.reg .d)
  | .cp_E => .alu .cp (.reg .e)
  | .cp_H => .alu .cp (.reg .h)
  | .cp_L => .alu .cp (.reg .l)
  | .cp_atHL => .alu .cp .atHL
  | .cp_A => .alu .cp (.reg .a)
  | .ret_NZ => .retCond .nz
  | .pop_BC => .pop .bc
  | .jp_NZ_a16 a16 => .jpCond .nz a16
  | .jp_a16 a16 => .jp_a16 a16
  | .call_NZ_a16 a16 => .callCond .nz a16
  | .push_BC => .push .bc
  | .add_A_d8 d8 => .aluImm .add d8
  | .rst_00H => .rst 0
  | .ret_Z => .retCond .z
  | .ret => .ret
  | .jp_Z_a16 a16 => .jpCond .z a16
  | .call_Z_a16 a16 => .callCond .z a16
  | .call_a16 a16 => .call_a16 a16
  | .adc_A_d8 d8 => .aluImm .adc d8
  | .rst_08H => .rst 1
  | .ret_NC => .retCond .nc
  | .pop_DE => .pop .de
  | .jp_NC_a16 a16 => .jpCond .nc a16
  | .undefined opcode => .undefined opcode
  | .call_NC_a16 a16 => .callCond .nc a16
  | .push_DE => .push .de
  | .sub_d8 d8 => .aluImm .sub d8
  | .rst_10H => .rst 2
  | .ret_C => .retCond .c
  | .reti => .reti
  | .jp_C_a16 a16 => .jpCond .c a16
  | .call_C_a16 a16 => .callCond .c a16
  | .sbc_A_d8 d8 => .aluImm .sbc d8
  | .rst_18H => .rst 3
  | .ldh_atA8_A a8 => .ldh_atA8_A a8
  | .pop_HL => .pop .hl
  | .ld_atC_A => .ld_atC_A
  | .push_HL => .push .hl
  | .and_d8 d8 => .aluImm .and d8
  | .rst_20H => .rst 4
  | .add_SP_r8 r8 => .add_SP_r8 r8
  | .jp_HL => .jp_HL
  | .ld_atA16_A a16 => .ld_atA16_A a16
  | .xor_d8 d8 => .aluImm .xor d8
  | .rst_28H => .rst 5
  | .ldh_A_atA8 a8 => .ldh_A_atA8 a8
  | .pop_AF => .pop .af
  | .ld_A_atC => .ld_A_atC
  | .di => .di
  | .push_AF => .push .af
  | .or_d8 d8 => .aluImm .or d8
  | .rst_30H => .rst 6
  | .ld_HL_SPr8 r8 => .ld_HL_SPr8 r8
  | .ld_SP_HL => .ld_SP_HL
  | .ld_A_atA16 a16 => .ld_A_atA16 a16
  | .ei => .ei
  | .cp_d8 d8 => .aluImm .cp d8
  | .rst_38H => .rst 7
  | .rlc_B => .shift .rlc (.reg .b)
  | .rlc_C => .shift .rlc (.reg .c)
  | .rlc_D => .shift .rlc (.reg .d)
  | .rlc_E => .shift .rlc (.reg .e)
  | .rlc_H => .shift .rlc (.reg .h)
  | .rlc_L => .shift .rlc (.reg .l)
  | .rlc_atHL => .shift .rlc .atHL
  | .rlc_A => .shift .rlc (.reg .a)
  | .rrc_B => .shift .rrc (.reg .b)
  | .rrc_C => .shift .rrc (.reg .c)
  | .rrc_D => .shift .rrc (.reg .d)
  | .rrc_E => .shift .rrc (.reg .e)
  | .rrc_H => .shift .rrc (.reg .h)
  | .rrc_L => .shift .rrc (.reg .l)
  | .rrc_atHL => .shift .rrc .atHL
  | .rrc_A => .shift .rrc (.reg .a)
  | .rl_B => .shift .rl (.reg .b)
  | .rl_C => .shift .rl (.reg .c)
  | .rl_D => .shift .rl (.reg .d)
  | .rl_E => .shift .rl (.reg .e)
  | .rl_H => .shift .rl (.reg .h)
  | .rl_L => .shift .rl (.reg .l)
  | .rl_atHL => .shift .rl .atHL
  | .rl_A => .shift .rl (.reg .a)
  | .rr_B => .shift .rr (.reg .b)
  | .rr_C => .shift .rr (.reg .c)
  | .rr_D => .shift .rr (.reg .d)
  | .rr_E => .shift .rr (.reg .e)
  | .rr_H => .shift .rr (.reg .h)
  | .rr_L => .shift .rr (.reg .l)
  | .rr_atHL => .shift .rr .atHL
  | .rr_A => .shift .rr (.reg .a)
  | .sla_B => .shift .sla (.reg .b)
  | .sla_C => .shift .sla (.reg .c)
  | .sla_D => .shift .sla (.reg .d)
  | .sla_E => .shift .sla (.reg .e)
  | .sla_H => .shift .sla (.reg .h)
  | .sla_L => .shift .sla (.reg .l)
  | .sla_atHL => .shift .sla .atHL
  | .sla_A => .shift .sla (.reg .a)
  | .sra_B => .shift .sra (.reg .b)
  | .sra_C => .shift .sra (.reg .c)
  | .sra_D => .shift .sra (.reg .d)
  | .sra_E => .shift .sra (.reg .e)
  | .sra_H => .shift .sra (.reg .h)
  | .sra_L => .shift .sra (.reg .l)
  | .sra_atHL => .shift .sra .atHL
  | .sra_A => .shift .sra (.reg .a)
  | .swap_B => .shift .swap (.reg .b)
  | .swap_C => .shift .swap (.reg .c)
  | .swap_D => .shift .swap (.reg .d)
  | .swap_E => .shift .swap (.reg .e)
  | .swap_H => .shift .swap (.reg .h)
  | .swap_L => .shift .swap (.reg .l)
  | .swap_atHL => .shift .swap .atHL
  | .swap_A => .shift .swap (.reg .a)
  | .srl_B => .shift .srl (.reg .b)
  | .srl_C => .shift .srl (.reg .c)
  | .srl_D => .shift .srl (.reg .d)
  | .srl_E => .shift .srl (.reg .e)
  | .srl_H => .shift .srl (.reg .h)
  | .srl_L => .shift .srl (.reg .l)
  | .srl_atHL => .shift .srl .atHL
  | .srl_A => .shift .srl (.reg .a)
  | .bit_0_B => .bit 0 (.reg .b)
  | .bit_0_C => .bit 0 (.reg .c)
  | .bit_0_D => .bit 0 (.reg .d)
  | .bit_0_E => .bit 0 (.reg .e)
  | .bit_0_H => .bit 0 (.reg .h)
  | .bit_0_L => .bit 0 (.reg .l)
  | .bit_0_atHL => .bit 0 .atHL
  | .bit_0_A => .bit 0 (.reg .a)
  | .bit_1_B => .bit 1 (.reg .b)
  | .bit_1_C => .bit 1 (.reg .c)
  | .bit_1_D => .bit 1 (.reg .d)
  | .bit_1_E => .bit 1 (.reg .e)
  | .bit_1_H => .bit 1 (.reg .h)
  | .bit_1_L => .bit 1 (.reg .l)
  | .bit_1_atHL => .bit 1 .atHL
  | .bit_1_A => .bit 1 (.reg .a)
  | .bit_2_B => .bit 2 (.reg .b)
  | .bit_2_C => .bit 2 (.reg .c)
  | .bit_2_D => .bit 2 (.reg .d)
  | .bit_2_E => .bit 2 (.reg .e)
  | .bit_2_H => .bit 2 (.reg .h)
  | .bit_2_L => .bit 2 (.reg .l)
  | .bit_2_atHL => .bit 2 .atHL
  | .bit_2_A => .bit 2 (.reg .a)
  | .bit_3_B => .bit 3 (.reg .b)
  | .bit_3_C => .bit 3 (.reg .c)
  | .bit_3_D => .bit 3 (.reg .d)
  | .bit_3_E => .bit 3 (.reg .e)
  | .bit_3_H => .bit 3 (.reg .h)
  | .bit_3_L => .bit 3 (.reg .l)
  | .bit_3_atHL => .bit 3 .atHL
  | .bit_3_A => .bit 3 (.reg .a)
  | .bit_4_B => .bit 4 (.reg .b)
  | .bit_4_C => .bit 4 (.reg .c)
  | .bit_4_D => .bit 4 (.reg .d)
  | .bit_4_E => .bit 4 (.reg .e)
  | .bit_4_H => .bit 4 (.reg .h)
  | .bit_4_L => .bit 4 (.reg .l)
  | .bit_4_atHL => .bit 4 .atHL
  | .bit_4_A => .bit 4 (.reg .a)
  | .bit_5_B => .bit 5 (.reg .b)
  | .bit_5_C => .bit 5 (.reg .c)
  | .bit_5_D => .bit 5 (.reg .d)
  | .bit_5_E => .bit 5 (.reg .e)
  | .bit_5_H => .bit 5 (.reg .h)
  | .bit_5_L => .bit 5 (.reg .l)
  | .bit_5_atHL => .bit 5 .atHL
  | .bit_5_A => .bit 5 (.reg .a)
  | .bit_6_B => .bit 6 (.reg .b)
  | .bit_6_C => .bit 6 (.reg .c)
  | .bit_6_D => .bit 6 (.reg .d)
  | .bit_6_E => .bit 6 (.reg .e)
  | .bit_6_H => .bit 6 (.reg .h)
  | .bit_6_L => .bit 6 (.reg .l)
  | .bit_6_atHL => .bit 6 .atHL
  | .bit_6_A => .bit 6 (.reg .a)
  | .bit_7_B => .bit 7 (.reg .b)
  | .bit_7_C => .bit 7 (.reg .c)
  | .bit_7_D => .bit 7 (.reg .d)
  | .bit_7_E => .bit 7 (.reg .e)
  | .bit_7_H => .bit 7 (.reg .h)
  | .bit_7_L => .bit 7 (.reg .l)
  | .bit_7_atHL => .bit 7 .atHL
  | .bit_7_A => .bit 7 (.reg .a)
  | .res_0_B => .res 0 (.reg .b)
  | .res_0_C => .res 0 (.reg .c)
  | .res_0_D => .res 0 (.reg .d)
  | .res_0_E => .res 0 (.reg .e)
  | .res_0_H => .res 0 (.reg .h)
  | .res_0_L => .res 0 (.reg .l)
  | .res_0_atHL => .res 0 .atHL
  | .res_0_A => .res 0 (.reg .a)
  | .res_1_B => .res 1 (.reg .b)
  | .res_1_C => .res 1 (.reg .c)
  | .res_1_D => .res 1 (.reg .d)
  | .res_1_E => .res 1 (.reg .e)
  | .res_1_H => .res 1 (.reg .h)
  | .res_1_L => .res 1 (.reg .l)
  | .res_1_atHL => .res 1 .atHL
  | .res_1_A => .res 1 (.reg .a)
  | .res_2_B => .res 2 (.reg .b)
  | .res_2_C => .res 2 (.reg .c)
  | .res_2_D => .res 2 (.reg .d)
  | .res_2_E => .res 2 (.reg .e)
  | .res_2_H => .res 2 (.reg .h)
  | .res_2_L => .res 2 (.reg .l)
  | .res_2_atHL => .res 2 .atHL
  | .res_2_A => .res 2 (.reg .a)
  | .res_3_B => .res 3 (.reg .b)
  | .res_3_C => .res 3 (.reg .c)
  | .res_3_D => .res 3 (.reg .d)
  | .res_3_E => .res 3 (.reg .e)
  | .res_3_H => .res 3 (.reg .h)
  | .res_3_L => .res 3 (.reg .l)
  | .res_3_atHL => .res 3 .atHL
  | .res_3_A => .res 3 (.reg .a)
  | .res_4_B => .res 4 (.reg .b)
  | .res_4_C => .res 4 (.reg .c)
  | .res_4_D => .res 4 (.reg .d)
  | .res_4_E => .res 4 (.reg .e)
  | .res_4_H => .res 4 (.reg .h)
  | .res_4_L => .res 4 (.reg .l)
  | .res_4_atHL => .res 4 .atHL
  | .res_4_A => .res 4 (.reg .a)
  | .res_5_B => .res 5 (.reg .b)
  | .res_5_C => .res 5 (.reg .c)
  | .res_5_D => .res 5 (.reg .d)
  | .res_5_E => .res 5 (.reg .e)
  | .res_5_H => .res 5 (.reg .h)
  | .res_5_L => .res 5 (.reg .l)
  | .res_5_atHL => .res 5 .atHL
  | .res_5_A => .res 5 (.reg .a)
  | .res_6_B => .res 6 (.reg .b)
  | .res_6_C => .res 6 (.reg .c)
  | .res_6_D => .res 6 (.reg .d)
  | .res_6_E => .res 6 (.reg .e)
  | .res_6_H => .res 6 (.reg .h)
  | .res_6_L => .res 6 (.reg .l)
  | .res_6_atHL => .res 6 .atHL
  | .res_6_A => .res 6 (.reg .a)
  | .res_7_B => .res 7 (.reg .b)
  | .res_7_C => .res 7 (.reg .c)
  | .res_7_D => .res 7 (.reg .d)
  | .res_7_E => .res 7 (.reg .e)
  | .res_7_H => .res 7 (.reg .h)
  | .res_7_L => .res 7 (.reg .l)
  | .res_7_atHL => .res 7 .atHL
  | .res_7_A => .res 7 (.reg .a)
  | .set_0_B => .set 0 (.reg .b)
  | .set_0_C => .set 0 (.reg .c)
  | .set_0_D => .set 0 (.reg .d)
  | .set_0_E => .set 0 (.reg .e)
  | .set_0_H => .set 0 (.reg .h)
  | .set_0_L => .set 0 (.reg .l)
  | .set_0_atHL => .set 0 .atHL
  | .set_0_A => .set 0 (.reg .a)
  | .set_1_B => .set 1 (.reg .b)
  | .set_1_C => .set 1 (.reg .c)
  | .set_1_D => .set 1 (.reg .d)
  | .set_1_E => .set 1 (.reg .e)
  | .set_1_H => .set 1 (.reg .h)
  | .set_1_L => .set 1 (.reg .l)
  | .set_1_atHL => .set 1 .atHL
  | .set_1_A => .set 1 (.reg .a)
  | .set_2_B => .set 2 (.reg .b)
  | .set_2_C => .set 2 (.reg .c)
  | .set_2_D => .set 2 (.reg .d)
  | .set_2_E => .set 2 (.reg .e)
  | .set_2_H => .set 2 (.reg .h)
  | .set_2_L => .set 2 (.reg .l)
  | .set_2_atHL => .set 2 .atHL
  | .set_2_A => .set 2 (.reg .a)
  | .set_3_B => .set 3 (.reg .b)
  | .set_3_C => .set 3 (.reg .c)
  | .set_3_D => .set 3 (.reg .d)
  | .set_3_E => .set 3 (.reg .e)
  | .set_3_H => .set 3 (.reg .h)
  | .set_3_L => .set 3 (.reg .l)
  | .set_3_atHL => .set 3 .atHL
  | .set_3_A => .set 3 (.reg .a)
  | .set_4_B => .set 4 (.reg .b)
  | .set_4_C => .set 4 (.reg .c)
  | .set_4_D => .set 4 (.reg .d)
  | .set_4_E => .set 4 (.reg .e)
  | .set_4_H => .set 4 (.reg .h)
  | .set_4_L => .set 4 (.reg .l)
  | .set_4_atHL => .set 4 .atHL
  | .set_4_A => .set 4 (.reg .a)
  | .set_5_B => .set 5 (.reg .b)
  | .set_5_C => .set 5 (.reg .c)
  | .set_5_D => .set 5 (.reg .d)
  | .set_5_E => .set 5 (.reg .e)
  | .set_5_H => .set 5 (.reg .h)
  | .set_5_L => .set 5 (.reg .l)
  | .set_5_atHL => .set 5 .atHL
  | .set_5_A => .set 5 (.reg .a)
  | .set_6_B => .set 6 (.reg .b)
  | .set_6_C => .set 6 (.reg .c)
  | .set_6_D => .set 6 (.reg .d)
  | .set_6_E => .set 6 (.reg .e)
  | .set_6_H => .set 6 (.reg .h)
  | .set_6_L => .set 6 (.reg .l)
  | .set_6_atHL => .set 6 .atHL
  | .set_6_A => .set 6 (.reg .a)
  | .set_7_B => .set 7 (.reg .b)
  | .set_7_C => .set 7 (.reg .c)
  | .set_7_D => .set 7 (.reg .d)
  | .set_7_E => .set 7 (.reg .e)
  | .set_7_H => .set 7 (.reg .h)
  | .set_7_L => .set 7 (.reg .l)
  | .set_7_atHL => .set 7 .atHL
  | .set_7_A => .set 7 (.reg .a)

/-! ## What exec answers -/

theorem exec_ldPairImm (p : Pair) (v : Word) (s : State) :
    exec (Form.ldPairImm p v) s = ldPairImm p v s := by
  cases p <;> rfl

theorem exec_incPair (p : Pair) (s : State) :
    exec (Form.incPair p) s = incPair p s := by
  cases p <;> rfl

theorem exec_inc (o : Operand8) (s : State) :
    exec (Form.inc o) s = incOperand o s := by
  rcases o with (_ | _ | _ | _ | _ | _ | _) | _ <;> rfl

theorem exec_dec (o : Operand8) (s : State) :
    exec (Form.dec o) s = decOperand o s := by
  rcases o with (_ | _ | _ | _ | _ | _ | _) | _ <;> rfl

theorem exec_ldRegImm (dst : Reg) (v : Byte) (s : State) :
    exec (Form.ldRegImm dst v) s = ldRegImm dst v s := by
  cases dst <;> rfl

theorem exec_addHL (p : Pair) (s : State) :
    exec (Form.addHL p) s = addToHL p s := by
  cases p <;> rfl

theorem exec_decPair (p : Pair) (s : State) :
    exec (Form.decPair p) s = decPair p s := by
  cases p <;> rfl

theorem exec_jrCond (cc : Cond) (r8 : Byte) (s : State) :
    exec (Form.jrCond cc r8) s = jumpIf cc (s.pc + sext16 r8) s := by
  cases cc <;> rfl

theorem exec_ldRegReg (dst src : Reg) (s : State) :
    exec (Form.ldRegReg dst src) s = ldRegReg dst src s := by
  cases dst <;> cases src <;> rfl

theorem exec_ldRegAtHL (dst : Reg) (s : State) :
    exec (Form.ldRegAtHL dst) s = ldRegAtHL dst s := by
  cases dst <;> rfl

theorem exec_ldAtHLReg (src : Reg) (s : State) :
    exec (Form.ldAtHLReg src) s = ldAtHLReg src s := by
  cases src <;> rfl

theorem exec_alu (op : AluOp) (o : Operand8) (s : State) :
    exec (Form.alu op o) s = aluOn op (readOperand o s) s := by
  cases op <;> rcases o with (_ | _ | _ | _ | _ | _ | _) | _ <;> rfl

theorem exec_retCond (cc : Cond) (s : State) :
    exec (Form.retCond cc) s = returnIf cc s := by
  cases cc <;> rfl

theorem exec_pop (p : StackPair) (s : State) :
    exec (Form.pop p) s = popPair p s := by
  cases p <;> rfl

theorem exec_jpCond (cc : Cond) (a16 : Word) (s : State) :
    exec (Form.jpCond cc a16) s = jumpIf cc a16 s := by
  cases cc <;> rfl

theorem exec_callCond (cc : Cond) (a16 : Word) (s : State) :
    exec (Form.callCond cc a16) s = callIf cc a16 s := by
  cases cc <;> rfl

theorem exec_push (p : StackPair) (s : State) :
    exec (Form.push p) s = pushPair p s := by
  cases p <;> rfl

theorem exec_aluImm (op : AluOp) (v : Byte) (s : State) :
    exec (Form.aluImm op v) s = aluOn op v s := by
  cases op <;> rfl

theorem exec_rst (t : Fin 8) (s : State) :
    exec (Form.rst t) s = callTo (BitVec.ofNat 16 (8 * t.val)) s := by
  fin_cases t <;> rfl

theorem exec_shift (op : ShiftOp) (o : Operand8) (s : State) :
    exec (Form.shift op o) s = shiftOperand op o s := by
  cases op <;> rcases o with (_ | _ | _ | _ | _ | _ | _) | _ <;> rfl

theorem exec_bit (bit : Fin 8) (o : Operand8) (s : State) :
    exec (Form.bit bit o) s = testBit bit o s := by
  fin_cases bit <;> rcases o with (_ | _ | _ | _ | _ | _ | _) | _ <;> rfl

theorem exec_res (bit : Fin 8) (o : Operand8) (s : State) :
    exec (Form.res bit o) s = resetBit bit o s := by
  fin_cases bit <;> rcases o with (_ | _ | _ | _ | _ | _ | _) | _ <;> rfl

theorem exec_set (bit : Fin 8) (o : Operand8) (s : State) :
    exec (Form.set bit o) s = assignBit bit o s := by
  fin_cases bit <;> rcases o with (_ | _ | _ | _ | _ | _ | _) | _ <;> rfl

theorem exec_nop (s : State) :
    exec (.nop) s = noEffect s := rfl

theorem exec_ld_atBC_A (s : State) :
    exec (.ld_atBC_A) s = storeA s.bc s := rfl

theorem exec_rlca (s : State) :
    exec (.rlca) s = rotateA .rlc s := rfl

theorem exec_ld_atA16_SP (a16 : Word) (s : State) :
    exec (.ld_atA16_SP a16) s = storeSP a16 s := rfl

theorem exec_ld_A_atBC (s : State) :
    exec (.ld_A_atBC) s = loadA s.bc s := rfl

theorem exec_rrca (s : State) :
    exec (.rrca) s = rotateA .rrc s := rfl

theorem exec_stop (pad : Byte) (s : State) :
    exec (.stop pad) s = stopCore s := rfl

theorem exec_ld_atDE_A (s : State) :
    exec (.ld_atDE_A) s = storeA s.de s := rfl

theorem exec_rla (s : State) :
    exec (.rla) s = rotateA .rl s := rfl

theorem exec_jr_r8 (r8 : Byte) (s : State) :
    exec (.jr_r8 r8) s = jumpTo (s.pc + sext16 r8) s := rfl

theorem exec_ld_A_atDE (s : State) :
    exec (.ld_A_atDE) s = loadA s.de s := rfl

theorem exec_rra (s : State) :
    exec (.rra) s = rotateA .rr s := rfl

theorem exec_ld_atHLI_A (s : State) :
    exec (.ld_atHLI_A) s = storeAStep 1 s := rfl

theorem exec_daa (s : State) :
    exec (.daa) s = adjustDecimal s := rfl

theorem exec_ld_A_atHLI (s : State) :
    exec (.ld_A_atHLI) s = loadAStep 1 s := rfl

theorem exec_cpl (s : State) :
    exec (.cpl) s = complementA s := rfl

theorem exec_ld_atHLD_A (s : State) :
    exec (.ld_atHLD_A) s = storeAStep (-1) s := rfl

theorem exec_ld_atHL_d8 (d8 : Byte) (s : State) :
    exec (.ld_atHL_d8 d8) s = ldAtHLImm d8 s := rfl

theorem exec_scf (s : State) :
    exec (.scf) s = setCarry s := rfl

theorem exec_ld_A_atHLD (s : State) :
    exec (.ld_A_atHLD) s = loadAStep (-1) s := rfl

theorem exec_ccf (s : State) :
    exec (.ccf) s = complementCarry s := rfl

theorem exec_halt (s : State) :
    exec (.halt) s = haltCore s := rfl

theorem exec_jp_a16 (a16 : Word) (s : State) :
    exec (.jp_a16 a16) s = jumpTo a16 s := rfl

theorem exec_ret (s : State) :
    exec (.ret) s = returnTo s := rfl

theorem exec_call_a16 (a16 : Word) (s : State) :
    exec (.call_a16 a16) s = callTo a16 s := rfl

theorem exec_undefined (opcode : Byte) (s : State) :
    exec (.undefined opcode) s = undefinedOpcode opcode s := rfl

theorem exec_reti (s : State) :
    exec (.reti) s = returnEnabling s := rfl

theorem exec_ldh_atA8_A (a8 : Byte) (s : State) :
    exec (.ldh_atA8_A a8) s = storeA (highPage a8) s := rfl

theorem exec_ld_atC_A (s : State) :
    exec (.ld_atC_A) s = storeA (highPage s.c) s := rfl

theorem exec_add_SP_r8 (r8 : Byte) (s : State) :
    exec (.add_SP_r8 r8) s = addToSP r8 s := rfl

theorem exec_jp_HL (s : State) :
    exec (.jp_HL) s = jumpTo s.hl s := rfl

theorem exec_ld_atA16_A (a16 : Word) (s : State) :
    exec (.ld_atA16_A a16) s = storeA a16 s := rfl

theorem exec_ldh_A_atA8 (a8 : Byte) (s : State) :
    exec (.ldh_A_atA8 a8) s = loadA (highPage a8) s := rfl

theorem exec_ld_A_atC (s : State) :
    exec (.ld_A_atC) s = loadA (highPage s.c) s := rfl

theorem exec_di (s : State) :
    exec (.di) s = disableInterrupts s := rfl

theorem exec_ld_HL_SPr8 (r8 : Byte) (s : State) :
    exec (.ld_HL_SPr8 r8) s = ldHLSPOffset r8 s := rfl

theorem exec_ld_SP_HL (s : State) :
    exec (.ld_SP_HL) s = ldSPHL s := rfl

theorem exec_ld_A_atA16 (a16 : Word) (s : State) :
    exec (.ld_A_atA16 a16) s = loadA a16 s := rfl

theorem exec_ei (s : State) :
    exec (.ei) s = enableInterruptsAfterNext s := rfl

end Sys2Proof.Laws
end

