-- ==== Sys2Proof/Laws/Engine.lean ====
section
/-! SUPPORT. What one step can do (spec/30_encoding.md R83), said once: later proofs split on `engineStep_cases` and unfold
no stage of the engine. -/

namespace Sys2Proof.Machine

/-- What a report of a step that ran instruction `i` says. -/
theorem runInstr_next {i : Instr} {s : State} {r : StepReport} (h : runInstr i s = .next r) :
    ∃ t, exec i (beforeBody i s) = .next t ∧
      r.cycles = 4 * spentCost i (beforeBody i s) ∧ r.after = tick (4 * spentCost i (beforeBody i s)) t ∧
      ((∃ opcode, i = .undefined opcode ∧ r.kind = .decodeError ⟨s.pc, opcode⟩) ∨
        ((∀ opcode, i ≠ .undefined opcode) ∧ r.kind = .executed)) := by
  unfold runInstr at h
  dsimp only at h
  split at h
  · rename_i t ht
    cases h
    refine ⟨t, ht, rfl, rfl, ?_⟩
    by_cases hu : ∃ opcode, i = .undefined opcode
    · obtain ⟨opcode, rfl⟩ := hu
      exact .inl ⟨opcode, rfl, rfl⟩
    · rw [not_exists] at hu
      refine .inr ⟨hu, ?_⟩
      dsimp only
      split
      · exact absurd rfl (hu _)
      · rfl
  · cases h
  · cases h

/-- An opcode is left out exactly if an entry its decoding looks up is. -/
theorem isLeftOut_iff {p : Params} {i : Instr} : isLeftOut p i = true ↔ ∃ o ∈ lookedUp i.opcode, o ∈ p.leftOut := by
  simp [isLeftOut]

/-- With the prefix left out, every instruction behind it is. -/
theorem isLeftOut_of_prefix {p : Params} {i : Instr} {xop : Byte} (hi : i.opcode = .extended xop)
    (h : .primary 0xCB ∈ p.leftOut) : isLeftOut p i = true :=
  isLeftOut_iff.2 ⟨.primary 0xCB, by simp [hi, lookedUp], h⟩

/-- Every way a step can answer a next state. -/
theorem engineStep_cases {s : State} {r : StepReport} (h : engineStep s = .next r) :
    s.fault = none ∧
    ((s.cpu = .stopped ∧ r = ⟨.stopped, 0, s⟩) ∨
     (s.cpu ≠ .stopped ∧
      ((∃ source, serviceable s = some source ∧ r = serviceInterrupt source (wake s)) ∨
       (serviceable s = none ∧ (wake s).cpu = .halted ∧ r = ⟨.halted, 4, tick 4 s⟩) ∨
       (serviceable s = none ∧ (wake s).cpu ≠ .halted ∧ isLeftOut s.params (fetchInstr s) = true ∧
        r = ⟨.decodeError ⟨s.pc, memRead s s.pc⟩, 0, raiseDecodeError (memRead s s.pc) s⟩) ∨
       (serviceable s = none ∧ (wake s).cpu ≠ .halted ∧ isLeftOut s.params (fetchInstr s) = false ∧
        runInstr (fetchInstr s) s = .next r)))) := by
  unfold engineStep at h
  split at h
  · cases h
  · rename_i hf
    refine ⟨hf, ?_⟩
    split_ifs at h with hs
    · cases h
      exact .inl ⟨hs, rfl⟩
    · refine .inr ⟨hs, ?_⟩
      unfold liveStep at h
      split at h
      · rename_i source hv
        cases h
        exact .inl ⟨source, hv, rfl⟩
      · rename_i hv
        split_ifs at h with hw
        · cases h
          exact .inr (.inl ⟨hv, hw, rfl⟩)
        · unfold fetchAndRun missingEntry at h
          split_ifs at h with hl
          · cases h
            exact .inr (.inr (.inl ⟨hv, hw, hl, rfl⟩))
          · exact .inr (.inr (.inr ⟨hv, hw, by simpa using hl, h⟩))

/-- A step's next state is the state of its report. -/
theorem step_eq_next {s t : State} : step s = .next t ↔ ∃ r, engineStep s = .next r ∧ r.after = t := by
  unfold step dropReport
  constructor
  · intro h
    split at h
    · rename_i r hr
      cases h
      exact ⟨r, hr, rfl⟩
    · cases h
    · cases h
  · rintro ⟨r, hr, rfl⟩
    rw [hr]

/-- The state an instruction's body sees, field by field; an undefined opcode's sees the state itself. -/
theorem beforeBody_eq {i : Instr} (h : ∀ opcode, i ≠ .undefined opcode) (s : State) :
    beforeBody i s = advancePC i.length (applyEiDelay (wake s)) := by
  unfold beforeBody
  split
  · exact absurd rfl (h _)
  · rfl

/-- A core that is not HALTED has nothing to wake from. -/
theorem wake_of_not_halted {s : State} (h : s.cpu ≠ .halted) : wake s = s := by
  unfold wake
  rw [if_neg (by simp [h])]

/-- The EI delay as a record: IME is set where ei_delay was. -/
theorem applyEiDelay_eq (s : State) : applyEiDelay s = { s with ime := s.ime || s.eiDelay, eiDelay := false } := by
  unfold applyEiDelay
  split
  · rename_i h
    simp [h]
  · rename_i h
    obtain ⟨a, b, c, d, e, hh, l, f, sp, pc, ime, ei, rest⟩ := s
    simp_all

/-- `pendingAndEnabled()` is nothing exactly when no bit is set in both masks. -/
theorem pendingAndEnabled_eq_none {s : State} : pendingAndEnabled s = none ↔ pendingMask s = 0 := by
  unfold pendingAndEnabled
  generalize pendingMask s = m
  revert m
  decide

/-- The condition under which a step services nothing. -/
theorem serviceable_eq_none {s : State} : serviceable s = none ↔ (s.ime = true → pendingMask s = 0) := by
  unfold serviceable
  split
  · rename_i h
    simp [h, pendingAndEnabled_eq_none]
  · rename_i h
    simp [h]

/-- A core about to fetch runs the fetched instruction. -/
theorem engineStep_of_fetches {s : State} (hf : s.fault = none) (hc : s.cpu = .running)
    (hv : s.ime = true → pendingMask s = 0) : engineStep s = fetchAndRun s := by
  unfold engineStep liveStep
  rw [hf, serviceable_eq_none.2 hv, wake_of_not_halted (by simp [hc])]
  simp [hc]

end Sys2Proof.Machine
end

