-- ==== Sys2Proof/Laws/Frames.lean ====
section
/-! SUPPORT. Establishing the frames of Safety.lean: from the record an operation answers, and through MemWrite. -/

namespace Sys2Proof.Machine

/-- A state that differs in registers, F, SP and PC only has the register frame, for the registers that did change. -/
theorem registerFrame_of {changed : List Reg} {s t : State}
    (h : t = { s with
      a := t.a, b := t.b, c := t.c, d := t.d, e := t.e, h := t.h, l := t.l, f := t.f, sp := t.sp, pc := t.pc })
    (hr : sameRegsBut changed s t) : registerFrame changed s t := by
  refine ⟨hr, ?_, ?_, ?_, ?_, ?_⟩ <;> rw [h]
  · exact ⟨rfl, rfl, rfl, rfl⟩
  · exact ⟨rfl, rfl, rfl, rfl, rfl⟩
  · exact ⟨rfl, rfl⟩
  · exact ⟨rfl, rfl, rfl⟩
  · exact ⟨rfl, rfl, fun _ => rfl⟩

/-- Everything one MemWrite leaves alone. -/
theorem memWrite_storeFrame (s : State) (x : Word) (v : Byte) : storeFrame [] [x] s (memWrite s x v) := by
  refine ⟨?_, ?_, ?_, ?_, ?_⟩
  · intro r _
    unfold memWrite
    cases busTarget s.params x <;> cases r <;> rfl
  · unfold memWrite sameControl
    cases busTarget s.params x <;> simp
  · unfold memWrite sameHostSide
    cases busTarget s.params x <;> simp
  · intro addr h
    exact memRead_memWrite_other _ _ (h x (by simp))
  · unfold busRegistersOutside memWrite
    cases hx : busTarget s.params x <;> simp [hx]

/-- One store after another. -/
theorem storeFrame_trans {xs ys : List Word} {s t u : State} (h₁ : storeFrame [] xs s t) (h₂ : storeFrame [] ys t u) :
    storeFrame [] (xs ++ ys) s u := by
  obtain ⟨hr, ⟨hc1, hc2, hc3, hc4⟩, ⟨hb, hcf, hp⟩, hm, d, ti, tm, ta, fl, ie, hk⟩ := h₁
  obtain ⟨hr', ⟨hc1', hc2', hc3', hc4'⟩, ⟨hb', hcf', hp'⟩, hm', d', ti', tm', ta', fl', ie', hk'⟩ := h₂
  rw [hp] at d' ti' tm' ta' fl' ie' hk'
  have split {P : Word → Prop} (h : ∀ x ∈ xs ++ ys, P x) : (∀ x ∈ xs, P x) ∧ ∀ x ∈ ys, P x := by
    simpa [or_imp, forall_and] using h
  refine ⟨fun r h => (hr' r h).trans (hr r h), ⟨hc1'.trans hc1, hc2'.trans hc2, hc3'.trans hc3, hc4'.trans hc4⟩,
    ⟨hb'.trans hb, hcf'.trans hcf, hp'.trans hp⟩, ?_, ?_⟩
  · intro addr h
    obtain ⟨hx, hy⟩ := split h
    exact (hm' addr (by rwa [hp])).trans (hm addr hx)
  · refine ⟨fun h => ?_, fun h => ?_, fun h => ?_, fun h => ?_, fun h => ?_, fun h => ?_, fun h => ?_⟩ <;>
      obtain ⟨hx, hy⟩ := split h
    · exact (d' hy).trans (d hx)
    · exact ⟨(ti' hy).1.trans (ti hx).1, (ti' hy).2.trans (ti hx).2⟩
    · exact (tm' hy).trans (tm hx)
    · exact (ta' hy).trans (ta hx)
    · exact (fl' hy).trans (fl hx)
    · exact (ie' hy).trans (ie hx)
    · exact (hk' hy).trans (hk hx)

/-- Changing registers, F, SP and PC after a store. -/
theorem storeFrame_regs {changed : List Reg} {xs : List Word} {s u t : State} (hu : storeFrame [] xs s u)
    (h : t = { u with
      a := t.a, b := t.b, c := t.c, d := t.d, e := t.e, h := t.h, l := t.l, f := t.f, sp := t.sp, pc := t.pc })
    (hr : sameRegsBut changed u t) : storeFrame changed xs s t := by
  obtain ⟨h1, h2, h3, h4, h5⟩ := hu
  refine ⟨fun r hr' => (hr r hr').trans (h1 r (by simp)), ?_, ?_, ?_, ?_⟩ <;> rw [h]
  · exact h2
  · exact h3
  · exact h4
  · exact h5

/-- Everything two MemWrites leave alone. -/
theorem memWrite_memWrite_storeFrame (s : State) (x y : Word) (v w : Byte) :
    storeFrame [] [x, y] s (memWrite (memWrite s x v) y w) :=
  storeFrame_trans (memWrite_storeFrame s x v) (memWrite_storeFrame _ y w)

/-- A write of R8[code], whatever F becomes, and its frame. -/
theorem wroteOperand_writeOperand (o : Operand8) (v : Byte) (s : State) (f : Flags) :
    wroteOperand o v s { writeOperand o v s with f := f } := by
  cases o with
  | reg r =>
    refine ⟨by cases r <;> rfl, registerFrame_of (by cases r <;> rfl) fun q hq => ?_⟩
    cases r <;> cases q <;> first | rfl | simp at hq
  | atHL =>
    exact ⟨rfl, storeFrame_regs (memWrite_storeFrame s s.hl v) rfl fun q _ => by cases q <;> rfl⟩

/-- A write of R8[code] leaves F, SP and PC alone. -/
@[simp] theorem writeOperand_f (o : Operand8) (v : Byte) (s : State) : (writeOperand o v s).f = s.f := by
  cases o <;> simp [writeOperand]

@[simp] theorem writeOperand_sp (o : Operand8) (v : Byte) (s : State) : (writeOperand o v s).sp = s.sp := by
  cases o <;> simp [writeOperand]

@[simp] theorem writeOperand_pc (o : Operand8) (v : Byte) (s : State) : (writeOperand o v s).pc = s.pc := by
  cases o <;> simp [writeOperand]

/-- What a push of `v` answers: two MemWrites below the old SP, and SP two lower (spec/42_load16_stack.md R113). -/
theorem push16_eq (v : Word) (s : State) :
    push16 v s = { memWrite (memWrite s (s.sp - 1) (hiByte v)) (s.sp - 2) (loByte v) with sp := s.sp - 2 } := by
  have h (u : State) (x : Word) (b : Byte) (q : Word) :
      memWrite { u with sp := q } x b = { memWrite u x b with sp := q } := by
    unfold memWrite
    cases busTarget u.params x <;> rfl
  unfold push16
  dsimp only
  rw [h s, h, h (memWrite s _ _)]

/-- Everything a push leaves alone but SP. -/
theorem push16_storeFrame (v : Word) (s : State) (pc : Word) :
    storeFrame [] [s.sp - 1, s.sp - 2] s { push16 v s with pc := pc } := by
  rw [push16_eq]
  exact storeFrame_regs (memWrite_memWrite_storeFrame s _ _ _ _) rfl fun q _ => by cases q <;> rfl

end Sys2Proof.Machine
end

