-- ==== Sys2Proof/Laws/PerInstr.lean ====
section
/-! SUPPORT. The family RoundTrip of LAWS.json: one lemma per constructor of Instr. The bytes of a well-formed instruction,
whatever follows them, are as many as the first byte announces and decode to it. -/

-- The many small theorems of this file are elaborated one after another.
set_option Elab.async false

namespace Sys2Proof.Laws

/-- The bytes of `i` are an opcode byte and the immediates it announces, and the decoder reads them as `i`, whatever follows. -/
def RoundTrip.Statement (i : Instr) : Prop :=
  i.wellFormed = true →
    ∃ op imm, encode i = op :: imm ∧ imm.length = lengthOfOpcode op - 1 ∧
      ∀ later, decodeBytes op ((imm ++ later).getD 0 0) ((imm ++ later).getD 1 0) = i

/-- An instruction behind the prefix. -/
theorem roundTrip_extended {i : Instr} {xop : Byte} (he : encode i = [0xCB, xop]) (hd : decodeExtended xop = i) :
    RoundTrip.Statement i :=
  fun _ => ⟨0xCB, [xop], he, rfl, fun _ => hd⟩

theorem RoundTrip.nop : RoundTrip.Statement (.nop) :=
  fun _ => ⟨_, _, rfl, rfl, fun _ => rfl⟩

theorem RoundTrip.ld_BC_d16 (d16 : Word) : RoundTrip.Statement (.ld_BC_d16 d16) :=
  fun _ => ⟨_, _, rfl, rfl, fun _ => congrArg Instr.ld_BC_d16 (joinBytes_halves _)⟩

theorem RoundTrip.ld_atBC_A : RoundTrip.Statement (.ld_atBC_A) :=
  fun _ => ⟨_, _, rfl, rfl, fun _ => rfl⟩

theorem RoundTrip.inc_BC : RoundTrip.Statement (.inc_BC) :=
  fun _ => ⟨_, _, rfl, rfl, fun _ => rfl⟩

theorem RoundTrip.inc_B : RoundTrip.Statement (.inc_B) :=
  fun _ => ⟨_, _, rfl, rfl, fun _ => rfl⟩

theorem RoundTrip.dec_B : RoundTrip.Statement (.dec_B) :=
  fun _ => ⟨_, _, rfl, rfl, fun _ => rfl⟩

theorem RoundTrip.ld_B_d8 (d8 : Byte) : RoundTrip.Statement (.ld_B_d8 d8) :=
  fun _ => ⟨_, _, rfl, rfl, fun _ => rfl⟩

theorem RoundTrip.rlca : RoundTrip.Statement (.rlca) :=
  fun _ => ⟨_, _, rfl, rfl, fun _ => rfl⟩

theorem RoundTrip.ld_atA16_SP (a16 : Word) : RoundTrip.Statement (.ld_atA16_SP a16) :=
  fun _ => ⟨_, _, rfl, rfl, fun _ => congrArg Instr.ld_atA16_SP (joinBytes_halves _)⟩

theorem RoundTrip.add_HL_BC : RoundTrip.Statement (.add_HL_BC) :=
  fun _ => ⟨_, _, rfl, rfl, fun _ => rfl⟩

theorem RoundTrip.ld_A_atBC : RoundTrip.Statement (.ld_A_atBC) :=
  fun _ => ⟨_, _, rfl, rfl, fun _ => rfl⟩

theorem RoundTrip.dec_BC : RoundTrip.Statement (.dec_BC) :=
  fun _ => ⟨_, _, rfl, rfl, fun _ => rfl⟩

theorem RoundTrip.inc_C : RoundTrip.Statement (.inc_C) :=
  fun _ => ⟨_, _, rfl, rfl, fun _ => rfl⟩

theorem RoundTrip.dec_C : RoundTrip.Statement (.dec_C) :=
  fun _ => ⟨_, _, rfl, rfl, fun _ => rfl⟩

theorem RoundTrip.ld_C_d8 (d8 : Byte) : RoundTrip.Statement (.ld_C_d8 d8) :=
  fun _ => ⟨_, _, rfl, rfl, fun _ => rfl⟩

theorem RoundTrip.rrca : RoundTrip.Statement (.rrca) :=
  fun _ => ⟨_, _, rfl, rfl, fun _ => rfl⟩

theorem RoundTrip.stop (pad : Byte) : RoundTrip.Statement (.stop pad) :=
  fun _ => ⟨_, _, rfl, rfl, fun _ => rfl⟩

theorem RoundTrip.ld_DE_d16 (d16 : Word) : RoundTrip.Statement (.ld_DE_d16 d16) :=
  fun _ => ⟨_, _, rfl, rfl, fun _ => congrArg Instr.ld_DE_d16 (joinBytes_halves _)⟩

theorem RoundTrip.ld_atDE_A : RoundTrip.Statement (.ld_atDE_A) :=
  fun _ => ⟨_, _, rfl, rfl, fun _ => rfl⟩

theorem RoundTrip.inc_DE : RoundTrip.Statement (.inc_DE) :=
  fun _ => ⟨_, _, rfl, rfl, fun _ => rfl⟩

theorem RoundTrip.inc_D : RoundTrip.Statement (.inc_D) :=
  fun _ => ⟨_, _, rfl, rfl, fun _ => rfl⟩

theorem RoundTrip.dec_D : RoundTrip.Statement (.dec_D) :=
  fun _ => ⟨_, _, rfl, rfl, fun _ => rfl⟩

theorem RoundTrip.ld_D_d8 (d8 : Byte) : RoundTrip.Statement (.ld_D_d8 d8) :=
  fun _ => ⟨_, _, rfl, rfl, fun _ => rfl⟩

theorem RoundTrip.rla : RoundTrip.Statement (.rla) :=
  fun _ => ⟨_, _, rfl, rfl, fun _ => rfl⟩

theorem RoundTrip.jr_r8 (r8 : Byte) : RoundTrip.Statement (.jr_r8 r8) :=
  fun _ => ⟨_, _, rfl, rfl, fun _ => rfl⟩

theorem RoundTrip.add_HL_DE : RoundTrip.Statement (.add_HL_DE) :=
  fun _ => ⟨_, _, rfl, rfl, fun _ => rfl⟩

theorem RoundTrip.ld_A_atDE : RoundTrip.Statement (.ld_A_atDE) :=
  fun _ => ⟨_, _, rfl, rfl, fun _ => rfl⟩

theorem RoundTrip.dec_DE : RoundTrip.Statement (.dec_DE) :=
  fun _ => ⟨_, _, rfl, rfl, fun _ => rfl⟩

theorem RoundTrip.inc_E : RoundTrip.Statement (.inc_E) :=
  fun _ => ⟨_, _, rfl, rfl, fun _ => rfl⟩

theorem RoundTrip.dec_E : RoundTrip.Statement (.dec_E) :=
  fun _ => ⟨_, _, rfl, rfl, fun _ => rfl⟩

theorem RoundTrip.ld_E_d8 (d8 : Byte) : RoundTrip.Statement (.ld_E_d8 d8) :=
  fun _ => ⟨_, _, rfl, rfl, fun _ => rfl⟩

theorem RoundTrip.rra : RoundTrip.Statement (.rra) :=
  fun _ => ⟨_, _, rfl, rfl, fun _ => rfl⟩

theorem RoundTrip.jr_NZ_r8 (r8 : Byte) : RoundTrip.Statement (.jr_NZ_r8 r8) :=
  fun _ => ⟨_, _, rfl, rfl, fun _ => rfl⟩

theorem RoundTrip.ld_HL_d16 (d16 : Word) : RoundTrip.Statement (.ld_HL_d16 d16) :=
  fun _ => ⟨_, _, rfl, rfl, fun _ => congrArg Instr.ld_HL_d16 (joinBytes_halves _)⟩

theorem RoundTrip.ld_atHLI_A : RoundTrip.Statement (.ld_atHLI_A) :=
  fun _ => ⟨_, _, rfl, rfl, fun _ => rfl⟩

theorem RoundTrip.inc_HL : RoundTrip.Statement (.inc_HL) :=
  fun _ => ⟨_, _, rfl, rfl, fun _ => rfl⟩

theorem RoundTrip.inc_H : RoundTrip.Statement (.inc_H) :=
  fun _ => ⟨_, _, rfl, rfl, fun _ => rfl⟩

theorem RoundTrip.dec_H : RoundTrip.Statement (.dec_H) :=
  fun _ => ⟨_, _, rfl, rfl, fun _ => rfl⟩

theorem RoundTrip.ld_H_d8 (d8 : Byte) : RoundTrip.Statement (.ld_H_d8 d8) :=
  fun _ => ⟨_, _, rfl, rfl, fun _ => rfl⟩

theorem RoundTrip.daa : RoundTrip.Statement (.daa) :=
  fun _ => ⟨_, _, rfl, rfl, fun _ => rfl⟩

theorem RoundTrip.jr_Z_r8 (r8 : Byte) : RoundTrip.Statement (.jr_Z_r8 r8) :=
  fun _ => ⟨_, _, rfl, rfl, fun _ => rfl⟩

theorem RoundTrip.add_HL_HL : RoundTrip.Statement (.add_HL_HL) :=
  fun _ => ⟨_, _, rfl, rfl, fun _ => rfl⟩

theorem RoundTrip.ld_A_atHLI : RoundTrip.Statement (.ld_A_atHLI) :=
  fun _ => ⟨_, _, rfl, rfl, fun _ => rfl⟩

theorem RoundTrip.dec_HL : RoundTrip.Statement (.dec_HL) :=
  fun _ => ⟨_, _, rfl, rfl, fun _ => rfl⟩

theorem RoundTrip.inc_L : RoundTrip.Statement (.inc_L) :=
  fun _ => ⟨_, _, rfl, rfl, fun _ => rfl⟩

theorem RoundTrip.dec_L : RoundTrip.Statement (.dec_L) :=
  fun _ => ⟨_, _, rfl, rfl, fun _ => rfl⟩

theorem RoundTrip.ld_L_d8 (d8 : Byte) : RoundTrip.Statement (.ld_L_d8 d8) :=
  fun _ => ⟨_, _, rfl, rfl, fun _ => rfl⟩

theorem RoundTrip.cpl : RoundTrip.Statement (.cpl) :=
  fun _ => ⟨_, _, rfl, rfl, fun _ => rfl⟩

theorem RoundTrip.jr_NC_r8 (r8 : Byte) : RoundTrip.Statement (.jr_NC_r8 r8) :=
  fun _ => ⟨_, _, rfl, rfl, fun _ => rfl⟩

theorem RoundTrip.ld_SP_d16 (d16 : Word) : RoundTrip.Statement (.ld_SP_d16 d16) :=
  fun _ => ⟨_, _, rfl, rfl, fun _ => congrArg Instr.ld_SP_d16 (joinBytes_halves _)⟩

theorem RoundTrip.ld_atHLD_A : RoundTrip.Statement (.ld_atHLD_A) :=
  fun _ => ⟨_, _, rfl, rfl, fun _ => rfl⟩

theorem RoundTrip.inc_SP : RoundTrip.Statement (.inc_SP) :=
  fun _ => ⟨_, _, rfl, rfl, fun _ => rfl⟩

theorem RoundTrip.inc_atHL : RoundTrip.Statement (.inc_atHL) :=
  fun _ => ⟨_, _, rfl, rfl, fun _ => rfl⟩

theorem RoundTrip.dec_atHL : RoundTrip.Statement (.dec_atHL) :=
  fun _ => ⟨_, _, rfl, rfl, fun _ => rfl⟩

theorem RoundTrip.ld_atHL_d8 (d8 : Byte) : RoundTrip.Statement (.ld_atHL_d8 d8) :=
  fun _ => ⟨_, _, rfl, rfl, fun _ => rfl⟩

theorem RoundTrip.scf : RoundTrip.Statement (.scf) :=
  fun _ => ⟨_, _, rfl, rfl, fun _ => rfl⟩

theorem RoundTrip.jr_C_r8 (r8 : Byte) : RoundTrip.Statement (.jr_C_r8 r8) :=
  fun _ => ⟨_, _, rfl, rfl, fun _ => rfl⟩

theorem RoundTrip.add_HL_SP : RoundTrip.Statement (.add_HL_SP) :=
  fun _ => ⟨_, _, rfl, rfl, fun _ => rfl⟩

theorem RoundTrip.ld_A_atHLD : RoundTrip.Statement (.ld_A_atHLD) :=
  fun _ => ⟨_, _, rfl, rfl, fun _ => rfl⟩

theorem RoundTrip.dec_SP : RoundTrip.Statement (.dec_SP) :=
  fun _ => ⟨_, _, rfl, rfl, fun _ => rfl⟩

theorem RoundTrip.inc_A : RoundTrip.Statement (.inc_A) :=
  fun _ => ⟨_, _, rfl, rfl, fun _ => rfl⟩

theorem RoundTrip.dec_A : RoundTrip.Statement (.dec_A) :=
  fun _ => ⟨_, _, rfl, rfl, fun _ => rfl⟩

theorem RoundTrip.ld_A_d8 (d8 : Byte) : RoundTrip.Statement (.ld_A_d8 d8) :=
  fun _ => ⟨_, _, rfl, rfl, fun _ => rfl⟩

theorem RoundTrip.ccf : RoundTrip.Statement (.ccf) :=
  fun _ => ⟨_, _, rfl, rfl, fun _ => rfl⟩

theorem RoundTrip.ld_B_B : RoundTrip.Statement (.ld_B_B) :=
  fun _ => ⟨_, _, rfl, rfl, fun _ => rfl⟩

theorem RoundTrip.ld_B_C : RoundTrip.Statement (.ld_B_C) :=
  fun _ => ⟨_, _, rfl, rfl, fun _ => rfl⟩

theorem RoundTrip.ld_B_D : RoundTrip.Statement (.ld_B_D) :=
  fun _ => ⟨_, _, rfl, rfl, fun _ => rfl⟩

theorem RoundTrip.ld_B_E : RoundTrip.Statement (.ld_B_E) :=
  fun _ => ⟨_, _, rfl, rfl, fun _ => rfl⟩

theorem RoundTrip.ld_B_H : RoundTrip.Statement (.ld_B_H) :=
  fun _ => ⟨_, _, rfl, rfl, fun _ => rfl⟩

theorem RoundTrip.ld_B_L : RoundTrip.Statement (.ld_B_L) :=
  fun _ => ⟨_, _, rfl, rfl, fun _ => rfl⟩

theorem RoundTrip.ld_B_atHL : RoundTrip.Statement (.ld_B_atHL) :=
  fun _ => ⟨_, _, rfl, rfl, fun _ => rfl⟩

theorem RoundTrip.ld_B_A : RoundTrip.Statement (.ld_B_A) :=
  fun _ => ⟨_, _, rfl, rfl, fun _ => rfl⟩

theorem RoundTrip.ld_C_B : RoundTrip.Statement (.ld_C_B) :=
  fun _ => ⟨_, _, rfl, rfl, fun _ => rfl⟩

theorem RoundTrip.ld_C_C : RoundTrip.Statement (.ld_C_C) :=
  fun _ => ⟨_, _, rfl, rfl, fun _ => rfl⟩

theorem RoundTrip.ld_C_D : RoundTrip.Statement (.ld_C_D) :=
  fun _ => ⟨_, _, rfl, rfl, fun _ => rfl⟩

theorem RoundTrip.ld_C_E : RoundTrip.Statement (.ld_C_E) :=
  fun _ => ⟨_, _, rfl, rfl, fun _ => rfl⟩

theorem RoundTrip.ld_C_H : RoundTrip.Statement (.ld_C_H) :=
  fun _ => ⟨_, _, rfl, rfl, fun _ => rfl⟩

theorem RoundTrip.ld_C_L : RoundTrip.Statement (.ld_C_L) :=
  fun _ => ⟨_, _, rfl, rfl, fun _ => rfl⟩

theorem RoundTrip.ld_C_atHL : RoundTrip.Statement (.ld_C_atHL) :=
  fun _ => ⟨_, _, rfl, rfl, fun _ => rfl⟩

theorem RoundTrip.ld_C_A : RoundTrip.Statement (.ld_C_A) :=
  fun _ => ⟨_, _, rfl, rfl, fun _ => rfl⟩

theorem RoundTrip.ld_D_B : RoundTrip.Statement (.ld_D_B) :=
  fun _ => ⟨_, _, rfl, rfl, fun _ => rfl⟩

theorem RoundTrip.ld_D_C : RoundTrip.Statement (.ld_D_C) :=
  fun _ => ⟨_, _, rfl, rfl, fun _ => rfl⟩

theorem RoundTrip.ld_D_D : RoundTrip.Statement (.ld_D_D) :=
  fun _ => ⟨_, _, rfl, rfl, fun _ => rfl⟩

theorem RoundTrip.ld_D_E : RoundTrip.Statement (.ld_D_E) :=
  fun _ => ⟨_, _, rfl, rfl, fun _ => rfl⟩

theorem RoundTrip.ld_D_H : RoundTrip.Statement (.ld_D_H) :=
  fun _ => ⟨_, _, rfl, rfl, fun _ => rfl⟩

theorem RoundTrip.ld_D_L : RoundTrip.Statement (.ld_D_L) :=
  fun _ => ⟨_, _, rfl, rfl, fun _ => rfl⟩

theorem RoundTrip.ld_D_atHL : RoundTrip.Statement (.ld_D_atHL) :=
  fun _ => ⟨_, _, rfl, rfl, fun _ => rfl⟩

theorem RoundTrip.ld_D_A : RoundTrip.Statement (.ld_D_A) :=
  fun _ => ⟨_, _, rfl, rfl, fun _ => rfl⟩

theorem RoundTrip.ld_E_B : RoundTrip.Statement (.ld_E_B) :=
  fun _ => ⟨_, _, rfl, rfl, fun _ => rfl⟩

theorem RoundTrip.ld_E_C : RoundTrip.Statement (.ld_E_C) :=
  fun _ => ⟨_, _, rfl, rfl, fun _ => rfl⟩

theorem RoundTrip.ld_E_D : RoundTrip.Statement (.ld_E_D) :=
  fun _ => ⟨_, _, rfl, rfl, fun _ => rfl⟩

theorem RoundTrip.ld_E_E : RoundTrip.Statement (.ld_E_E) :=
  fun _ => ⟨_, _, rfl, rfl, fun _ => rfl⟩

theorem RoundTrip.ld_E_H : RoundTrip.Statement (.ld_E_H) :=
  fun _ => ⟨_, _, rfl, rfl, fun _ => rfl⟩

theorem RoundTrip.ld_E_L : RoundTrip.Statement (.ld_E_L) :=
  fun _ => ⟨_, _, rfl, rfl, fun _ => rfl⟩

theorem RoundTrip.ld_E_atHL : RoundTrip.Statement (.ld_E_atHL) :=
  fun _ => ⟨_, _, rfl, rfl, fun _ => rfl⟩

theorem RoundTrip.ld_E_A : RoundTrip.Statement (.ld_E_A) :=
  fun _ => ⟨_, _, rfl, rfl, fun _ => rfl⟩

theorem RoundTrip.ld_H_B : RoundTrip.Statement (.ld_H_B) :=
  fun _ => ⟨_, _, rfl, rfl, fun _ => rfl⟩

theorem RoundTrip.ld_H_C : RoundTrip.Statement (.ld_H_C) :=
  fun _ => ⟨_, _, rfl, rfl, fun _ => rfl⟩

theorem RoundTrip.ld_H_D : RoundTrip.Statement (.ld_H_D) :=
  fun _ => ⟨_, _, rfl, rfl, fun _ => rfl⟩

theorem RoundTrip.ld_H_E : RoundTrip.Statement (.ld_H_E) :=
  fun _ => ⟨_, _, rfl, rfl, fun _ => rfl⟩

theorem RoundTrip.ld_H_H : RoundTrip.Statement (.ld_H_H) :=
  fun _ => ⟨_, _, rfl, rfl, fun _ => rfl⟩

theorem RoundTrip.ld_H_L : RoundTrip.Statement (.ld_H_L) :=
  fun _ => ⟨_, _, rfl, rfl, fun _ => rfl⟩

theorem RoundTrip.ld_H_atHL : RoundTrip.Statement (.ld_H_atHL) :=
  fun _ => ⟨_, _, rfl, rfl, fun _ => rfl⟩

theorem RoundTrip.ld_H_A : RoundTrip.Statement (.ld_H_A) :=
  fun _ => ⟨_, _, rfl, rfl, fun _ => rfl⟩

theorem RoundTrip.ld_L_B : RoundTrip.Statement (.ld_L_B) :=
  fun _ => ⟨_, _, rfl, rfl, fun _ => rfl⟩

theorem RoundTrip.ld_L_C : RoundTrip.Statement (.ld_L_C) :=
  fun _ => ⟨_, _, rfl, rfl, fun _ => rfl⟩

theorem RoundTrip.ld_L_D : RoundTrip.Statement (.ld_L_D) :=
  fun _ => ⟨_, _, rfl, rfl, fun _ => rfl⟩

theorem RoundTrip.ld_L_E : RoundTrip.Statement (.ld_L_E) :=
  fun _ => ⟨_, _, rfl, rfl, fun _ => rfl⟩

theorem RoundTrip.ld_L_H : RoundTrip.Statement (.ld_L_H) :=
  fun _ => ⟨_, _, rfl, rfl, fun _ => rfl⟩

theorem RoundTrip.ld_L_L : RoundTrip.Statement (.ld_L_L) :=
  fun _ => ⟨_, _, rfl, rfl, fun _ => rfl⟩

theorem RoundTrip.ld_L_atHL : RoundTrip.Statement (.ld_L_atHL) :=
  fun _ => ⟨_, _, rfl, rfl, fun _ => rfl⟩

theorem RoundTrip.ld_L_A : RoundTrip.Statement (.ld_L_A) :=
  fun _ => ⟨_, _, rfl, rfl, fun _ => rfl⟩

theorem RoundTrip.ld_atHL_B : RoundTrip.Statement (.ld_atHL_B) :=
  fun _ => ⟨_, _, rfl, rfl, fun _ => rfl⟩

theorem RoundTrip.ld_atHL_C : RoundTrip.Statement (.ld_atHL_C) :=
  fun _ => ⟨_, _, rfl, rfl, fun _ => rfl⟩

theorem RoundTrip.ld_atHL_D : RoundTrip.Statement (.ld_atHL_D) :=
  fun _ => ⟨_, _, rfl, rfl, fun _ => rfl⟩

theorem RoundTrip.ld_atHL_E : RoundTrip.Statement (.ld_atHL_E) :=
  fun _ => ⟨_, _, rfl, rfl, fun _ => rfl⟩

theorem RoundTrip.ld_atHL_H : RoundTrip.Statement (.ld_atHL_H) :=
  fun _ => ⟨_, _, rfl, rfl, fun _ => rfl⟩

theorem RoundTrip.ld_atHL_L : RoundTrip.Statement (.ld_atHL_L) :=
  fun _ => ⟨_, _, rfl, rfl, fun _ => rfl⟩

theorem RoundTrip.halt : RoundTrip.Statement (.halt) :=
  fun _ => ⟨_, _, rfl, rfl, fun _ => rfl⟩

theorem RoundTrip.ld_atHL_A : RoundTrip.Statement (.ld_atHL_A) :=
  fun _ => ⟨_, _, rfl, rfl, fun _ => rfl⟩

theorem RoundTrip.ld_A_B : RoundTrip.Statement (.ld_A_B) :=
  fun _ => ⟨_, _, rfl, rfl, fun _ => rfl⟩

theorem RoundTrip.ld_A_C : RoundTrip.Statement (.ld_A_C) :=
  fun _ => ⟨_, _, rfl, rfl, fun _ => rfl⟩

theorem RoundTrip.ld_A_D : RoundTrip.Statement (.ld_A_D) :=
  fun _ => ⟨_, _, rfl, rfl, fun _ => rfl⟩

theorem RoundTrip.ld_A_E : RoundTrip.Statement (.ld_A_E) :=
  fun _ => ⟨_, _, rfl, rfl, fun _ => rfl⟩

theorem RoundTrip.ld_A_H : RoundTrip.Statement (.ld_A_H) :=
  fun _ => ⟨_, _, rfl, rfl, fun _ => rfl⟩

theorem RoundTrip.ld_A_L : RoundTrip.Statement (.ld_A_L) :=
  fun _ => ⟨_, _, rfl, rfl, fun _ => rfl⟩

theorem RoundTrip.ld_A_atHL : RoundTrip.Statement (.ld_A_atHL) :=
  fun _ => ⟨_, _, rfl, rfl, fun _ => rfl⟩

theorem RoundTrip.ld_A_A : RoundTrip.Statement (.ld_A_A) :=
  fun _ => ⟨_, _, rfl, rfl, fun _ => rfl⟩

theorem RoundTrip.add_A_B : RoundTrip.Statement (.add_A_B) :=
  fun _ => ⟨_, _, rfl, rfl, fun _ => rfl⟩

theorem RoundTrip.add_A_C : RoundTrip.Statement (.add_A_C) :=
  fun _ => ⟨_, _, rfl, rfl, fun _ => rfl⟩

theorem RoundTrip.add_A_D : RoundTrip.Statement (.add_A_D) :=
  fun _ => ⟨_, _, rfl, rfl, fun _ => rfl⟩

theorem RoundTrip.add_A_E : RoundTrip.Statement (.add_A_E) :=
  fun _ => ⟨_, _, rfl, rfl, fun _ => rfl⟩

theorem RoundTrip.add_A_H : RoundTrip.Statement (.add_A_H) :=
  fun _ => ⟨_, _, rfl, rfl, fun _ => rfl⟩

theorem RoundTrip.add_A_L : RoundTrip.Statement (.add_A_L) :=
  fun _ => ⟨_, _, rfl, rfl, fun _ => rfl⟩

theorem RoundTrip.add_A_atHL : RoundTrip.Statement (.add_A_atHL) :=
  fun _ => ⟨_, _, rfl, rfl, fun _ => rfl⟩

theorem RoundTrip.add_A_A : RoundTrip.Statement (.add_A_A) :=
  fun _ => ⟨_, _, rfl, rfl, fun _ => rfl⟩

theorem RoundTrip.adc_A_B : RoundTrip.Statement (.adc_A_B) :=
  fun _ => ⟨_, _, rfl, rfl, fun _ => rfl⟩

theorem RoundTrip.adc_A_C : RoundTrip.Statement (.adc_A_C) :=
  fun _ => ⟨_, _, rfl, rfl, fun _ => rfl⟩

theorem RoundTrip.adc_A_D : RoundTrip.Statement (.adc_A_D) :=
  fun _ => ⟨_, _, rfl, rfl, fun _ => rfl⟩

theorem RoundTrip.adc_A_E : RoundTrip.Statement (.adc_A_E) :=
  fun _ => ⟨_, _, rfl, rfl, fun _ => rfl⟩

theorem RoundTrip.adc_A_H : RoundTrip.Statement (.adc_A_H) :=
  fun _ => ⟨_, _, rfl, rfl, fun _ => rfl⟩

theorem RoundTrip.adc_A_L : RoundTrip.Statement (.adc_A_L) :=
  fun _ => ⟨_, _, rfl, rfl, fun _ => rfl⟩

theorem RoundTrip.adc_A_atHL : RoundTrip.Statement (.adc_A_atHL) :=
  fun _ => ⟨_, _, rfl, rfl, fun _ => rfl⟩

theorem RoundTrip.adc_A_A : RoundTrip.Statement (.adc_A_A) :=
  fun _ => ⟨_, _, rfl, rfl, fun _ => rfl⟩

theorem RoundTrip.sub_B : RoundTrip.Statement (.sub_B) :=
  fun _ => ⟨_, _, rfl, rfl, fun _ => rfl⟩

theorem RoundTrip.sub_C : RoundTrip.Statement (.sub_C) :=
  fun _ => ⟨_, _, rfl, rfl, fun _ => rfl⟩

theorem RoundTrip.sub_D : RoundTrip.Statement (.sub_D) :=
  fun _ => ⟨_, _, rfl, rfl, fun _ => rfl⟩

theorem RoundTrip.sub_E : RoundTrip.Statement (.sub_E) :=
  fun _ => ⟨_, _, rfl, rfl, fun _ => rfl⟩

theorem RoundTrip.sub_H : RoundTrip.Statement (.sub_H) :=
  fun _ => ⟨_, _, rfl, rfl, fun _ => rfl⟩

theorem RoundTrip.sub_L : RoundTrip.Statement (.sub_L) :=
  fun _ => ⟨_, _, rfl, rfl, fun _ => rfl⟩

theorem RoundTrip.sub_atHL : RoundTrip.Statement (.sub_atHL) :=
  fun _ => ⟨_, _, rfl, rfl, fun _ => rfl⟩

theorem RoundTrip.sub_A : RoundTrip.Statement (.sub_A) :=
  fun _ => ⟨_, _, rfl, rfl, fun _ => rfl⟩

theorem RoundTrip.sbc_A_B : RoundTrip.Statement (.sbc_A_B) :=
  fun _ => ⟨_, _, rfl, rfl, fun _ => rfl⟩

theorem RoundTrip.sbc_A_C : RoundTrip.Statement (.sbc_A_C) :=
  fun _ => ⟨_, _, rfl, rfl, fun _ => rfl⟩

theorem RoundTrip.sbc_A_D : RoundTrip.Statement (.sbc_A_D) :=
  fun _ => ⟨_, _, rfl, rfl, fun _ => rfl⟩

theorem RoundTrip.sbc_A_E : RoundTrip.Statement (.sbc_A_E) :=
  fun _ => ⟨_, _, rfl, rfl, fun _ => rfl⟩

theorem RoundTrip.sbc_A_H : RoundTrip.Statement (.sbc_A_H) :=
  fun _ => ⟨_, _, rfl, rfl, fun _ => rfl⟩

theorem RoundTrip.sbc_A_L : RoundTrip.Statement (.sbc_A_L) :=
  fun _ => ⟨_, _, rfl, rfl, fun _ => rfl⟩

theorem RoundTrip.sbc_A_atHL : RoundTrip.Statement (.sbc_A_atHL) :=
  fun _ => ⟨_, _, rfl, rfl, fun _ => rfl⟩

theorem RoundTrip.sbc_A_A : RoundTrip.Statement (.sbc_A_A) :=
  fun _ => ⟨_, _, rfl, rfl, fun _ => rfl⟩

theorem RoundTrip.and_B : RoundTrip.Statement (.and_B) :=
  fun _ => ⟨_, _, rfl, rfl, fun _ => rfl⟩

theorem RoundTrip.and_C : RoundTrip.Statement (.and_C) :=
  fun _ => ⟨_, _, rfl, rfl, fun _ => rfl⟩

theorem RoundTrip.and_D : RoundTrip.Statement (.and_D) :=
  fun _ => ⟨_, _, rfl, rfl, fun _ => rfl⟩

theorem RoundTrip.and_E : RoundTrip.Statement (.and_E) :=
  fun _ => ⟨_, _, rfl, rfl, fun _ => rfl⟩

theorem RoundTrip.and_H : RoundTrip.Statement (.and_H) :=
  fun _ => ⟨_, _, rfl, rfl, fun _ => rfl⟩

theorem RoundTrip.and_L : RoundTrip.Statement (.and_L) :=
  fun _ => ⟨_, _, rfl, rfl, fun _ => rfl⟩

theorem RoundTrip.and_atHL : RoundTrip.Statement (.and_atHL) :=
  fun _ => ⟨_, _, rfl, rfl, fun _ => rfl⟩

theorem RoundTrip.and_A : RoundTrip.Statement (.and_A) :=
  fun _ => ⟨_, _, rfl, rfl, fun _ => rfl⟩

theorem RoundTrip.xor_B : RoundTrip.Statement (.xor_B) :=
  fun _ => ⟨_, _, rfl, rfl, fun _ => rfl⟩

theorem RoundTrip.xor_C : RoundTrip.Statement (.xor_C) :=
  fun _ => ⟨_, _, rfl, rfl, fun _ => rfl⟩

theorem RoundTrip.xor_D : RoundTrip.Statement (.xor_D) :=
  fun _ => ⟨_, _, rfl, rfl, fun _ => rfl⟩

theorem RoundTrip.xor_E : RoundTrip.Statement (.xor_E) :=
  fun _ => ⟨_, _, rfl, rfl, fun _ => rfl⟩

theorem RoundTrip.xor_H : RoundTrip.Statement (.xor_H) :=
  fun _ => ⟨_, _, rfl, rfl, fun _ => rfl⟩

theorem RoundTrip.xor_L : RoundTrip.Statement (.xor_L) :=
  fun _ => ⟨_, _, rfl, rfl, fun _ => rfl⟩

theorem RoundTrip.xor_atHL : RoundTrip.Statement (.xor_atHL) :=
  fun _ => ⟨_, _, rfl, rfl, fun _ => rfl⟩

theorem RoundTrip.xor_A : RoundTrip.Statement (.xor_A) :=
  fun _ => ⟨_, _, rfl, rfl, fun _ => rfl⟩

theorem RoundTrip.or_B : RoundTrip.Statement (.or_B) :=
  fun _ => ⟨_, _, rfl, rfl, fun _ => rfl⟩

theorem RoundTrip.or_C : RoundTrip.Statement (.or_C) :=
  fun _ => ⟨_, _, rfl, rfl, fun _ => rfl⟩

theorem RoundTrip.or_D : RoundTrip.Statement (.or_D) :=
  fun _ => ⟨_, _, rfl, rfl, fun _ => rfl⟩

theorem RoundTrip.or_E : RoundTrip.Statement (.or_E) :=
  fun _ => ⟨_, _, rfl, rfl, fun _ => rfl⟩

theorem RoundTrip.or_H : RoundTrip.Statement (.or_H) :=
  fun _ => ⟨_, _, rfl, rfl, fun _ => rfl⟩

theorem RoundTrip.or_L : RoundTrip.Statement (.or_L) :=
  fun _ => ⟨_, _, rfl, rfl, fun _ => rfl⟩

theorem RoundTrip.or_atHL : RoundTrip.Statement (.or_atHL) :=
  fun _ => ⟨_, _, rfl, rfl, fun _ => rfl⟩

theorem RoundTrip.or_A : RoundTrip.Statement (.or_A) :=
  fun _ => ⟨_, _, rfl, rfl, fun _ => rfl⟩

theorem RoundTrip.cp_B : RoundTrip.Statement (.cp_B) :=
  fun _ => ⟨_, _, rfl, rfl, fun _ => rfl⟩

theorem RoundTrip.cp_C : RoundTrip.Statement (.cp_C) :=
  fun _ => ⟨_, _, rfl, rfl, fun _ => rfl⟩

theorem RoundTrip.cp_D : RoundTrip.Statement (.cp_D) :=
  fun _ => ⟨_, _, rfl, rfl, fun _ => rfl⟩

theorem RoundTrip.cp_E : RoundTrip.Statement (.cp_E) :=
  fun _ => ⟨_, _, rfl, rfl, fun _ => rfl⟩

theorem RoundTrip.cp_H : RoundTrip.Statement (.cp_H) :=
  fun _ => ⟨_, _, rfl, rfl, fun _ => rfl⟩

theorem RoundTrip.cp_L : RoundTrip.Statement (.cp_L) :=
  fun _ => ⟨_, _, rfl, rfl, fun _ => rfl⟩

theorem RoundTrip.cp_atHL : RoundTrip.Statement (.cp_atHL) :=
  fun _ => ⟨_, _, rfl, rfl, fun _ => rfl⟩

theorem RoundTrip.cp_A : RoundTrip.Statement (.cp_A) :=
  fun _ => ⟨_, _, rfl, rfl, fun _ => rfl⟩

theorem RoundTrip.ret_NZ : RoundTrip.Statement (.ret_NZ) :=
  fun _ => ⟨_, _, rfl, rfl, fun _ => rfl⟩

theorem RoundTrip.pop_BC : RoundTrip.Statement (.pop_BC) :=
  fun _ => ⟨_, _, rfl, rfl, fun _ => rfl⟩

theorem RoundTrip.jp_NZ_a16 (a16 : Word) : RoundTrip.Statement (.jp_NZ_a16 a16) :=
  fun _ => ⟨_, _, rfl, rfl, fun _ => congrArg Instr.jp_NZ_a16 (joinBytes_halves _)⟩

theorem RoundTrip.jp_a16 (a16 : Word) : RoundTrip.Statement (.jp_a16 a16) :=
  fun _ => ⟨_, _, rfl, rfl, fun _ => congrArg Instr.jp_a16 (joinBytes_halves _)⟩

theorem RoundTrip.call_NZ_a16 (a16 : Word) : RoundTrip.Statement (.call_NZ_a16 a16) :=
  fun _ => ⟨_, _, rfl, rfl, fun _ => congrArg Instr.call_NZ_a16 (joinBytes_halves _)⟩

theorem RoundTrip.push_BC : RoundTrip.Statement (.push_BC) :=
  fun _ => ⟨_, _, rfl, rfl, fun _ => rfl⟩

theorem RoundTrip.add_A_d8 (d8 : Byte) : RoundTrip.Statement (.add_A_d8 d8) :=
  fun _ => ⟨_, _, rfl, rfl, fun _ => rfl⟩

theorem RoundTrip.rst_00H : RoundTrip.Statement (.rst_00H) :=
  fun _ => ⟨_, _, rfl, rfl, fun _ => rfl⟩

theorem RoundTrip.ret_Z : RoundTrip.Statement (.ret_Z) :=
  fun _ => ⟨_, _, rfl, rfl, fun _ => rfl⟩

theorem RoundTrip.ret : RoundTrip.Statement (.ret) :=
  fun _ => ⟨_, _, rfl, rfl, fun _ => rfl⟩

theorem RoundTrip.jp_Z_a16 (a16 : Word) : RoundTrip.Statement (.jp_Z_a16 a16) :=
  fun _ => ⟨_, _, rfl, rfl, fun _ => congrArg Instr.jp_Z_a16 (joinBytes_halves _)⟩

theorem RoundTrip.call_Z_a16 (a16 : Word) : RoundTrip.Statement (.call_Z_a16 a16) :=
  fun _ => ⟨_, _, rfl, rfl, fun _ => congrArg Instr.call_Z_a16 (joinBytes_halves _)⟩

theorem RoundTrip.call_a16 (a16 : Word) : RoundTrip.Statement (.call_a16 a16) :=
  fun _ => ⟨_, _, rfl, rfl, fun _ => congrArg Instr.call_a16 (joinBytes_halves _)⟩

theorem RoundTrip.adc_A_d8 (d8 : Byte) : RoundTrip.Statement (.adc_A_d8 d8) :=
  fun _ => ⟨_, _, rfl, rfl, fun _ => rfl⟩

theorem RoundTrip.rst_08H : RoundTrip.Statement (.rst_08H) :=
  fun _ => ⟨_, _, rfl, rfl, fun _ => rfl⟩

theorem RoundTrip.ret_NC : RoundTrip.Statement (.ret_NC) :=
  fun _ => ⟨_, _, rfl, rfl, fun _ => rfl⟩

theorem RoundTrip.pop_DE : RoundTrip.Statement (.pop_DE) :=
  fun _ => ⟨_, _, rfl, rfl, fun _ => rfl⟩

theorem RoundTrip.jp_NC_a16 (a16 : Word) : RoundTrip.Statement (.jp_NC_a16 a16) :=
  fun _ => ⟨_, _, rfl, rfl, fun _ => congrArg Instr.jp_NC_a16 (joinBytes_halves _)⟩

theorem RoundTrip.undefined (opcode : Byte) : RoundTrip.Statement (.undefined opcode) := by
  intro h
  have hm : opcode ∈ undefinedOpcodes := List.contains_iff_mem.1 h
  simp only [undefinedOpcodes, List.mem_cons, List.not_mem_nil, or_false] at hm
  rcases hm with rfl | rfl | rfl | rfl | rfl | rfl | rfl | rfl | rfl | rfl | rfl <;>
    exact ⟨_, _, rfl, rfl, fun _ => rfl⟩

theorem RoundTrip.call_NC_a16 (a16 : Word) : RoundTrip.Statement (.call_NC_a16 a16) :=
  fun _ => ⟨_, _, rfl, rfl, fun _ => congrArg Instr.call_NC_a16 (joinBytes_halves _)⟩

theorem RoundTrip.push_DE : RoundTrip.Statement (.push_DE) :=
  fun _ => ⟨_, _, rfl, rfl, fun _ => rfl⟩

theorem RoundTrip.sub_d8 (d8 : Byte) : RoundTrip.Statement (.sub_d8 d8) :=
  fun _ => ⟨_, _, rfl, rfl, fun _ => rfl⟩

theorem RoundTrip.rst_10H : RoundTrip.Statement (.rst_10H) :=
  fun _ => ⟨_, _, rfl, rfl, fun _ => rfl⟩

theorem RoundTrip.ret_C : RoundTrip.Statement (.ret_C) :=
  fun _ => ⟨_, _, rfl, rfl, fun _ => rfl⟩

theorem RoundTrip.reti : RoundTrip.Statement (.reti) :=
  fun _ => ⟨_, _, rfl, rfl, fun _ => rfl⟩

theorem RoundTrip.jp_C_a16 (a16 : Word) : RoundTrip.Statement (.jp_C_a16 a16) :=
  fun _ => ⟨_, _, rfl, rfl, fun _ => congrArg Instr.jp_C_a16 (joinBytes_halves _)⟩

theorem RoundTrip.call_C_a16 (a16 : Word) : RoundTrip.Statement (.call_C_a16 a16) :=
  fun _ => ⟨_, _, rfl, rfl, fun _ => congrArg Instr.call_C_a16 (joinBytes_halves _)⟩

theorem RoundTrip.sbc_A_d8 (d8 : Byte) : RoundTrip.Statement (.sbc_A_d8 d8) :=
  fun _ => ⟨_, _, rfl, rfl, fun _ => rfl⟩

theorem RoundTrip.rst_18H : RoundTrip.Statement (.rst_18H) :=
  fun _ => ⟨_, _, rfl, rfl, fun _ => rfl⟩

theorem RoundTrip.ldh_atA8_A (a8 : Byte) : RoundTrip.Statement (.ldh_atA8_A a8) :=
  fun _ => ⟨_, _, rfl, rfl, fun _ => rfl⟩

theorem RoundTrip.pop_HL : RoundTrip.Statement (.pop_HL) :=
  fun _ => ⟨_, _, rfl, rfl, fun _ => rfl⟩

theorem RoundTrip.ld_atC_A : RoundTrip.Statement (.ld_atC_A) :=
  fun _ => ⟨_, _, rfl, rfl, fun _ => rfl⟩

theorem RoundTrip.push_HL : RoundTrip.Statement (.push_HL) :=
  fun _ => ⟨_, _, rfl, rfl, fun _ => rfl⟩

theorem RoundTrip.and_d8 (d8 : Byte) : RoundTrip.Statement (.and_d8 d8) :=
  fun _ => ⟨_, _, rfl, rfl, fun _ => rfl⟩

theorem RoundTrip.rst_20H : RoundTrip.Statement (.rst_20H) :=
  fun _ => ⟨_, _, rfl, rfl, fun _ => rfl⟩

theorem RoundTrip.add_SP_r8 (r8 : Byte) : RoundTrip.Statement (.add_SP_r8 r8) :=
  fun _ => ⟨_, _, rfl, rfl, fun _ => rfl⟩

theorem RoundTrip.jp_HL : RoundTrip.Statement (.jp_HL) :=
  fun _ => ⟨_, _, rfl, rfl, fun _ => rfl⟩

theorem RoundTrip.ld_atA16_A (a16 : Word) : RoundTrip.Statement (.ld_atA16_A a16) :=
  fun _ => ⟨_, _, rfl, rfl, fun _ => congrArg Instr.ld_atA16_A (joinBytes_halves _)⟩

theorem RoundTrip.xor_d8 (d8 : Byte) : RoundTrip.Statement (.xor_d8 d8) :=
  fun _ => ⟨_, _, rfl, rfl, fun _ => rfl⟩

theorem RoundTrip.rst_28H : RoundTrip.Statement (.rst_28H) :=
  fun _ => ⟨_, _, rfl, rfl, fun _ => rfl⟩

theorem RoundTrip.ldh_A_atA8 (a8 : Byte) : RoundTrip.Statement (.ldh_A_atA8 a8) :=
  fun _ => ⟨_, _, rfl, rfl, fun _ => rfl⟩

theorem RoundTrip.pop_AF : RoundTrip.Statement (.pop_AF) :=
  fun _ => ⟨_, _, rfl, rfl, fun _ => rfl⟩

theorem RoundTrip.ld_A_atC : RoundTrip.Statement (.ld_A_atC) :=
  fun _ => ⟨_, _, rfl, rfl, fun _ => rfl⟩

theorem RoundTrip.di : RoundTrip.Statement (.di) :=
  fun _ => ⟨_, _, rfl, rfl, fun _ => rfl⟩

theorem RoundTrip.push_AF : RoundTrip.Statement (.push_AF) :=
  fun _ => ⟨_, _, rfl, rfl, fun _ => rfl⟩

theorem RoundTrip.or_d8 (d8 : Byte) : RoundTrip.Statement (.or_d8 d8) :=
  fun _ => ⟨_, _, rfl, rfl, fun _ => rfl⟩

theorem RoundTrip.rst_30H : RoundTrip.Statement (.rst_30H) :=
  fun _ => ⟨_, _, rfl, rfl, fun _ => rfl⟩

theorem RoundTrip.ld_HL_SPr8 (r8 : Byte) : RoundTrip.Statement (.ld_HL_SPr8 r8) :=
  fun _ => ⟨_, _, rfl, rfl, fun _ => rfl⟩

theorem RoundTrip.ld_SP_HL : RoundTrip.Statement (.ld_SP_HL) :=
  fun _ => ⟨_, _, rfl, rfl, fun _ => rfl⟩

theorem RoundTrip.ld_A_atA16 (a16 : Word) : RoundTrip.Statement (.ld_A_atA16 a16) :=
  fun _ => ⟨_, _, rfl, rfl, fun _ => congrArg Instr.ld_A_atA16 (joinBytes_halves _)⟩

theorem RoundTrip.ei : RoundTrip.Statement (.ei) :=
  fun _ => ⟨_, _, rfl, rfl, fun _ => rfl⟩

theorem RoundTrip.cp_d8 (d8 : Byte) : RoundTrip.Statement (.cp_d8 d8) :=
  fun _ => ⟨_, _, rfl, rfl, fun _ => rfl⟩

theorem RoundTrip.rst_38H : RoundTrip.Statement (.rst_38H) :=
  fun _ => ⟨_, _, rfl, rfl, fun _ => rfl⟩

theorem RoundTrip.rlc_B : RoundTrip.Statement .rlc_B :=
  roundTrip_extended rfl rfl

theorem RoundTrip.rlc_C : RoundTrip.Statement .rlc_C :=
  roundTrip_extended rfl rfl

theorem RoundTrip.rlc_D : RoundTrip.Statement .rlc_D :=
  roundTrip_extended rfl rfl

theorem RoundTrip.rlc_E : RoundTrip.Statement .rlc_E :=
  roundTrip_extended rfl rfl

theorem RoundTrip.rlc_H : RoundTrip.Statement .rlc_H :=
  roundTrip_extended rfl rfl

theorem RoundTrip.rlc_L : RoundTrip.Statement .rlc_L :=
  roundTrip_extended rfl rfl

theorem RoundTrip.rlc_atHL : RoundTrip.Statement .rlc_atHL :=
  roundTrip_extended rfl rfl

theorem RoundTrip.rlc_A : RoundTrip.Statement .rlc_A :=
  roundTrip_extended rfl rfl

theorem RoundTrip.rrc_B : RoundTrip.Statement .rrc_B :=
  roundTrip_extended rfl rfl

theorem RoundTrip.rrc_C : RoundTrip.Statement .rrc_C :=
  roundTrip_extended rfl rfl

theorem RoundTrip.rrc_D : RoundTrip.Statement .rrc_D :=
  roundTrip_extended rfl rfl

theorem RoundTrip.rrc_E : RoundTrip.Statement .rrc_E :=
  roundTrip_extended rfl rfl

theorem RoundTrip.rrc_H : RoundTrip.Statement .rrc_H :=
  roundTrip_extended rfl rfl

theorem RoundTrip.rrc_L : RoundTrip.Statement .rrc_L :=
  roundTrip_extended rfl rfl

theorem RoundTrip.rrc_atHL : RoundTrip.Statement .rrc_atHL :=
  roundTrip_extended rfl rfl

theorem RoundTrip.rrc_A : RoundTrip.Statement .rrc_A :=
  roundTrip_extended rfl rfl

theorem RoundTrip.rl_B : RoundTrip.Statement .rl_B :=
  roundTrip_extended rfl rfl

theorem RoundTrip.rl_C : RoundTrip.Statement .rl_C :=
  roundTrip_extended rfl rfl

theorem RoundTrip.rl_D : RoundTrip.Statement .rl_D :=
  roundTrip_extended rfl rfl

theorem RoundTrip.rl_E : RoundTrip.Statement .rl_E :=
  roundTrip_extended rfl rfl

theorem RoundTrip.rl_H : RoundTrip.Statement .rl_H :=
  roundTrip_extended rfl rfl

theorem RoundTrip.rl_L : RoundTrip.Statement .rl_L :=
  roundTrip_extended rfl rfl

theorem RoundTrip.rl_atHL : RoundTrip.Statement .rl_atHL :=
  roundTrip_extended rfl rfl

theorem RoundTrip.rl_A : RoundTrip.Statement .rl_A :=
  roundTrip_extended rfl rfl

theorem RoundTrip.rr_B : RoundTrip.Statement .rr_B :=
  roundTrip_extended rfl rfl

theorem RoundTrip.rr_C : RoundTrip.Statement .rr_C :=
  roundTrip_extended rfl rfl

theorem RoundTrip.rr_D : RoundTrip.Statement .rr_D :=
  roundTrip_extended rfl rfl

theorem RoundTrip.rr_E : RoundTrip.Statement .rr_E :=
  roundTrip_extended rfl rfl

theorem RoundTrip.rr_H : RoundTrip.Statement .rr_H :=
  roundTrip_extended rfl rfl

theorem RoundTrip.rr_L : RoundTrip.Statement .rr_L :=
  roundTrip_extended rfl rfl

theorem RoundTrip.rr_atHL : RoundTrip.Statement .rr_atHL :=
  roundTrip_extended rfl rfl

theorem RoundTrip.rr_A : RoundTrip.Statement .rr_A :=
  roundTrip_extended rfl rfl

theorem RoundTrip.sla_B : RoundTrip.Statement .sla_B :=
  roundTrip_extended rfl rfl

theorem RoundTrip.sla_C : RoundTrip.Statement .sla_C :=
  roundTrip_extended rfl rfl

theorem RoundTrip.sla_D : RoundTrip.Statement .sla_D :=
  roundTrip_extended rfl rfl

theorem RoundTrip.sla_E : RoundTrip.Statement .sla_E :=
  roundTrip_extended rfl rfl

theorem RoundTrip.sla_H : RoundTrip.Statement .sla_H :=
  roundTrip_extended rfl rfl

theorem RoundTrip.sla_L : RoundTrip.Statement .sla_L :=
  roundTrip_extended rfl rfl

theorem RoundTrip.sla_atHL : RoundTrip.Statement .sla_atHL :=
  roundTrip_extended rfl rfl

theorem RoundTrip.sla_A : RoundTrip.Statement .sla_A :=
  roundTrip_extended rfl rfl

theorem RoundTrip.sra_B : RoundTrip.Statement .sra_B :=
  roundTrip_extended rfl rfl

theorem RoundTrip.sra_C : RoundTrip.Statement .sra_C :=
  roundTrip_extended rfl rfl

theorem RoundTrip.sra_D : RoundTrip.Statement .sra_D :=
  roundTrip_extended rfl rfl

theorem RoundTrip.sra_E : RoundTrip.Statement .sra_E :=
  roundTrip_extended rfl rfl

theorem RoundTrip.sra_H : RoundTrip.Statement .sra_H :=
  roundTrip_extended rfl rfl

theorem RoundTrip.sra_L : RoundTrip.Statement .sra_L :=
  roundTrip_extended rfl rfl

theorem RoundTrip.sra_atHL : RoundTrip.Statement .sra_atHL :=
  roundTrip_extended rfl rfl

theorem RoundTrip.sra_A : RoundTrip.Statement .sra_A :=
  roundTrip_extended rfl rfl

theorem RoundTrip.swap_B : RoundTrip.Statement .swap_B :=
  roundTrip_extended rfl rfl

theorem RoundTrip.swap_C : RoundTrip.Statement .swap_C :=
  roundTrip_extended rfl rfl

theorem RoundTrip.swap_D : RoundTrip.Statement .swap_D :=
  roundTrip_extended rfl rfl

theorem RoundTrip.swap_E : RoundTrip.Statement .swap_E :=
  roundTrip_extended rfl rfl

theorem RoundTrip.swap_H : RoundTrip.Statement .swap_H :=
  roundTrip_extended rfl rfl

theorem RoundTrip.swap_L : RoundTrip.Statement .swap_L :=
  roundTrip_extended rfl rfl

theorem RoundTrip.swap_atHL : RoundTrip.Statement .swap_atHL :=
  roundTrip_extended rfl rfl

theorem RoundTrip.swap_A : RoundTrip.Statement .swap_A :=
  roundTrip_extended rfl rfl

theorem RoundTrip.srl_B : RoundTrip.Statement .srl_B :=
  roundTrip_extended rfl rfl

theorem RoundTrip.srl_C : RoundTrip.Statement .srl_C :=
  roundTrip_extended rfl rfl

theorem RoundTrip.srl_D : RoundTrip.Statement .srl_D :=
  roundTrip_extended rfl rfl

theorem RoundTrip.srl_E : RoundTrip.Statement .srl_E :=
  roundTrip_extended rfl rfl

theorem RoundTrip.srl_H : RoundTrip.Statement .srl_H :=
  roundTrip_extended rfl rfl

theorem RoundTrip.srl_L : RoundTrip.Statement .srl_L :=
  roundTrip_extended rfl rfl

theorem RoundTrip.srl_atHL : RoundTrip.Statement .srl_atHL :=
  roundTrip_extended rfl rfl

theorem RoundTrip.srl_A : RoundTrip.Statement .srl_A :=
  roundTrip_extended rfl rfl

theorem RoundTrip.bit_0_B : RoundTrip.Statement .bit_0_B :=
  roundTrip_extended rfl rfl

theorem RoundTrip.bit_0_C : RoundTrip.Statement .bit_0_C :=
  roundTrip_extended rfl rfl

theorem RoundTrip.bit_0_D : RoundTrip.Statement .bit_0_D :=
  roundTrip_extended rfl rfl

theorem RoundTrip.bit_0_E : RoundTrip.Statement .bit_0_E :=
  roundTrip_extended rfl rfl

theorem RoundTrip.bit_0_H : RoundTrip.Statement .bit_0_H :=
  roundTrip_extended rfl rfl

theorem RoundTrip.bit_0_L : RoundTrip.Statement .bit_0_L :=
  roundTrip_extended rfl rfl

theorem RoundTrip.bit_0_atHL : RoundTrip.Statement .bit_0_atHL :=
  roundTrip_extended rfl rfl

theorem RoundTrip.bit_0_A : RoundTrip.Statement .bit_0_A :=
  roundTrip_extended rfl rfl

theorem RoundTrip.bit_1_B : RoundTrip.Statement .bit_1_B :=
  roundTrip_extended rfl rfl

theorem RoundTrip.bit_1_C : RoundTrip.Statement .bit_1_C :=
  roundTrip_extended rfl rfl

theorem RoundTrip.bit_1_D : RoundTrip.Statement .bit_1_D :=
  roundTrip_extended rfl rfl

theorem RoundTrip.bit_1_E : RoundTrip.Statement .bit_1_E :=
  roundTrip_extended rfl rfl

theorem RoundTrip.bit_1_H : RoundTrip.Statement .bit_1_H :=
  roundTrip_extended rfl rfl

theorem RoundTrip.bit_1_L : RoundTrip.Statement .bit_1_L :=
  roundTrip_extended rfl rfl

theorem RoundTrip.bit_1_atHL : RoundTrip.Statement .bit_1_atHL :=
  roundTrip_extended rfl rfl

theorem RoundTrip.bit_1_A : RoundTrip.Statement .bit_1_A :=
  roundTrip_extended rfl rfl

theorem RoundTrip.bit_2_B : RoundTrip.Statement .bit_2_B :=
  roundTrip_extended rfl rfl

theorem RoundTrip.bit_2_C : RoundTrip.Statement .bit_2_C :=
  roundTrip_extended rfl rfl

theorem RoundTrip.bit_2_D : RoundTrip.Statement .bit_2_D :=
  roundTrip_extended rfl rfl

theorem RoundTrip.bit_2_E : RoundTrip.Statement .bit_2_E :=
  roundTrip_extended rfl rfl

theorem RoundTrip.bit_2_H : RoundTrip.Statement .bit_2_H :=
  roundTrip_extended rfl rfl

theorem RoundTrip.bit_2_L : RoundTrip.Statement .bit_2_L :=
  roundTrip_extended rfl rfl

theorem RoundTrip.bit_2_atHL : RoundTrip.Statement .bit_2_atHL :=
  roundTrip_extended rfl rfl

theorem RoundTrip.bit_2_A : RoundTrip.Statement .bit_2_A :=
  roundTrip_extended rfl rfl

theorem RoundTrip.bit_3_B : RoundTrip.Statement .bit_3_B :=
  roundTrip_extended rfl rfl

theorem RoundTrip.bit_3_C : RoundTrip.Statement .bit_3_C :=
  roundTrip_extended rfl rfl

theorem RoundTrip.bit_3_D : RoundTrip.Statement .bit_3_D :=
  roundTrip_extended rfl rfl

theorem RoundTrip.bit_3_E : RoundTrip.Statement .bit_3_E :=
  roundTrip_extended rfl rfl

theorem RoundTrip.bit_3_H : RoundTrip.Statement .bit_3_H :=
  roundTrip_extended rfl rfl

theorem RoundTrip.bit_3_L : RoundTrip.Statement .bit_3_L :=
  roundTrip_extended rfl rfl

theorem RoundTrip.bit_3_atHL : RoundTrip.Statement .bit_3_atHL :=
  roundTrip_extended rfl rfl

theorem RoundTrip.bit_3_A : RoundTrip.Statement .bit_3_A :=
  roundTrip_extended rfl rfl

theorem RoundTrip.bit_4_B : RoundTrip.Statement .bit_4_B :=
  roundTrip_extended rfl rfl

theorem RoundTrip.bit_4_C : RoundTrip.Statement .bit_4_C :=
  roundTrip_extended rfl rfl

theorem RoundTrip.bit_4_D : RoundTrip.Statement .bit_4_D :=
  roundTrip_extended rfl rfl

theorem RoundTrip.bit_4_E : RoundTrip.Statement .bit_4_E :=
  roundTrip_extended rfl rfl

theorem RoundTrip.bit_4_H : RoundTrip.Statement .bit_4_H :=
  roundTrip_extended rfl rfl

theorem RoundTrip.bit_4_L : RoundTrip.Statement .bit_4_L :=
  roundTrip_extended rfl rfl

theorem RoundTrip.bit_4_atHL : RoundTrip.Statement .bit_4_atHL :=
  roundTrip_extended rfl rfl

theorem RoundTrip.bit_4_A : RoundTrip.Statement .bit_4_A :=
  roundTrip_extended rfl rfl

theorem RoundTrip.bit_5_B : RoundTrip.Statement .bit_5_B :=
  roundTrip_extended rfl rfl

theorem RoundTrip.bit_5_C : RoundTrip.Statement .bit_5_C :=
  roundTrip_extended rfl rfl

theorem RoundTrip.bit_5_D : RoundTrip.Statement .bit_5_D :=
  roundTrip_extended rfl rfl

theorem RoundTrip.bit_5_E : RoundTrip.Statement .bit_5_E :=
  roundTrip_extended rfl rfl

theorem RoundTrip.bit_5_H : RoundTrip.Statement .bit_5_H :=
  roundTrip_extended rfl rfl

theorem RoundTrip.bit_5_L : RoundTrip.Statement .bit_5_L :=
  roundTrip_extended rfl rfl

theorem RoundTrip.bit_5_atHL : RoundTrip.Statement .bit_5_atHL :=
  roundTrip_extended rfl rfl

theorem RoundTrip.bit_5_A : RoundTrip.Statement .bit_5_A :=
  roundTrip_extended rfl rfl

theorem RoundTrip.bit_6_B : RoundTrip.Statement .bit_6_B :=
  roundTrip_extended rfl rfl

theorem RoundTrip.bit_6_C : RoundTrip.Statement .bit_6_C :=
  roundTrip_extended rfl rfl

theorem RoundTrip.bit_6_D : RoundTrip.Statement .bit_6_D :=
  roundTrip_extended rfl rfl

theorem RoundTrip.bit_6_E : RoundTrip.Statement .bit_6_E :=
  roundTrip_extended rfl rfl

theorem RoundTrip.bit_6_H : RoundTrip.Statement .bit_6_H :=
  roundTrip_extended rfl rfl

theorem RoundTrip.bit_6_L : RoundTrip.Statement .bit_6_L :=
  roundTrip_extended rfl rfl

theorem RoundTrip.bit_6_atHL : RoundTrip.Statement .bit_6_atHL :=
  roundTrip_extended rfl rfl

theorem RoundTrip.bit_6_A : RoundTrip.Statement .bit_6_A :=
  roundTrip_extended rfl rfl

theorem RoundTrip.bit_7_B : RoundTrip.Statement .bit_7_B :=
  roundTrip_extended rfl rfl

theorem RoundTrip.bit_7_C : RoundTrip.Statement .bit_7_C :=
  roundTrip_extended rfl rfl

theorem RoundTrip.bit_7_D : RoundTrip.Statement .bit_7_D :=
  roundTrip_extended rfl rfl

theorem RoundTrip.bit_7_E : RoundTrip.Statement .bit_7_E :=
  roundTrip_extended rfl rfl

theorem RoundTrip.bit_7_H : RoundTrip.Statement .bit_7_H :=
  roundTrip_extended rfl rfl

theorem RoundTrip.bit_7_L : RoundTrip.Statement .bit_7_L :=
  roundTrip_extended rfl rfl

theorem RoundTrip.bit_7_atHL : RoundTrip.Statement .bit_7_atHL :=
  roundTrip_extended rfl rfl

theorem RoundTrip.bit_7_A : RoundTrip.Statement .bit_7_A :=
  roundTrip_extended rfl rfl

theorem RoundTrip.res_0_B : RoundTrip.Statement .res_0_B :=
  roundTrip_extended rfl rfl

theorem RoundTrip.res_0_C : RoundTrip.Statement .res_0_C :=
  roundTrip_extended rfl rfl

theorem RoundTrip.res_0_D : RoundTrip.Statement .res_0_D :=
  roundTrip_extended rfl rfl

theorem RoundTrip.res_0_E : RoundTrip.Statement .res_0_E :=
  roundTrip_extended rfl rfl

theorem RoundTrip.res_0_H : RoundTrip.Statement .res_0_H :=
  roundTrip_extended rfl rfl

theorem RoundTrip.res_0_L : RoundTrip.Statement .res_0_L :=
  roundTrip_extended rfl rfl

theorem RoundTrip.res_0_atHL : RoundTrip.Statement .res_0_atHL :=
  roundTrip_extended rfl rfl

theorem RoundTrip.res_0_A : RoundTrip.Statement .res_0_A :=
  roundTrip_extended rfl rfl

theorem RoundTrip.res_1_B : RoundTrip.Statement .res_1_B :=
  roundTrip_extended rfl rfl

theorem RoundTrip.res_1_C : RoundTrip.Statement .res_1_C :=
  roundTrip_extended rfl rfl

theorem RoundTrip.res_1_D : RoundTrip.Statement .res_1_D :=
  roundTrip_extended rfl rfl

theorem RoundTrip.res_1_E : RoundTrip.Statement .res_1_E :=
  roundTrip_extended rfl rfl

theorem RoundTrip.res_1_H : RoundTrip.Statement .res_1_H :=
  roundTrip_extended rfl rfl

theorem RoundTrip.res_1_L : RoundTrip.Statement .res_1_L :=
  roundTrip_extended rfl rfl

theorem RoundTrip.res_1_atHL : RoundTrip.Statement .res_1_atHL :=
  roundTrip_extended rfl rfl

theorem RoundTrip.res_1_A : RoundTrip.Statement .res_1_A :=
  roundTrip_extended rfl rfl

theorem RoundTrip.res_2_B : RoundTrip.Statement .res_2_B :=
  roundTrip_extended rfl rfl

theorem RoundTrip.res_2_C : RoundTrip.Statement .res_2_C :=
  roundTrip_extended rfl rfl

theorem RoundTrip.res_2_D : RoundTrip.Statement .res_2_D :=
  roundTrip_extended rfl rfl

theorem RoundTrip.res_2_E : RoundTrip.Statement .res_2_E :=
  roundTrip_extended rfl rfl

theorem RoundTrip.res_2_H : RoundTrip.Statement .res_2_H :=
  roundTrip_extended rfl rfl

theorem RoundTrip.res_2_L : RoundTrip.Statement .res_2_L :=
  roundTrip_extended rfl rfl

theorem RoundTrip.res_2_atHL : RoundTrip.Statement .res_2_atHL :=
  roundTrip_extended rfl rfl

theorem RoundTrip.res_2_A : RoundTrip.Statement .res_2_A :=
  roundTrip_extended rfl rfl

theorem RoundTrip.res_3_B : RoundTrip.Statement .res_3_B :=
  roundTrip_extended rfl rfl

theorem RoundTrip.res_3_C : RoundTrip.Statement .res_3_C :=
  roundTrip_extended rfl rfl

theorem RoundTrip.res_3_D : RoundTrip.Statement .res_3_D :=
  roundTrip_extended rfl rfl

theorem RoundTrip.res_3_E : RoundTrip.Statement .res_3_E :=
  roundTrip_extended rfl rfl

theorem RoundTrip.res_3_H : RoundTrip.Statement .res_3_H :=
  roundTrip_extended rfl rfl

theorem RoundTrip.res_3_L : RoundTrip.Statement .res_3_L :=
  roundTrip_extended rfl rfl

theorem RoundTrip.res_3_atHL : RoundTrip.Statement .res_3_atHL :=
  roundTrip_extended rfl rfl

theorem RoundTrip.res_3_A : RoundTrip.Statement .res_3_A :=
  roundTrip_extended rfl rfl

theorem RoundTrip.res_4_B : RoundTrip.Statement .res_4_B :=
  roundTrip_extended rfl rfl

theorem RoundTrip.res_4_C : RoundTrip.Statement .res_4_C :=
  roundTrip_extended rfl rfl

theorem RoundTrip.res_4_D : RoundTrip.Statement .res_4_D :=
  roundTrip_extended rfl rfl

theorem RoundTrip.res_4_E : RoundTrip.Statement .res_4_E :=
  roundTrip_extended rfl rfl

theorem RoundTrip.res_4_H : RoundTrip.Statement .res_4_H :=
  roundTrip_extended rfl rfl

theorem RoundTrip.res_4_L : RoundTrip.Statement .res_4_L :=
  roundTrip_extended rfl rfl

theorem RoundTrip.res_4_atHL : RoundTrip.Statement .res_4_atHL :=
  roundTrip_extended rfl rfl

theorem RoundTrip.res_4_A : RoundTrip.Statement .res_4_A :=
  roundTrip_extended rfl rfl

theorem RoundTrip.res_5_B : RoundTrip.Statement .res_5_B :=
  roundTrip_extended rfl rfl

theorem RoundTrip.res_5_C : RoundTrip.Statement .res_5_C :=
  roundTrip_extended rfl rfl

theorem RoundTrip.res_5_D : RoundTrip.Statement .res_5_D :=
  roundTrip_extended rfl rfl

theorem RoundTrip.res_5_E : RoundTrip.Statement .res_5_E :=
  roundTrip_extended rfl rfl

theorem RoundTrip.res_5_H : RoundTrip.Statement .res_5_H :=
  roundTrip_extended rfl rfl

theorem RoundTrip.res_5_L : RoundTrip.Statement .res_5_L :=
  roundTrip_extended rfl rfl

theorem RoundTrip.res_5_atHL : RoundTrip.Statement .res_5_atHL :=
  roundTrip_extended rfl rfl

theorem RoundTrip.res_5_A : RoundTrip.Statement .res_5_A :=
  roundTrip_extended rfl rfl

theorem RoundTrip.res_6_B : RoundTrip.Statement .res_6_B :=
  roundTrip_extended rfl rfl

theorem RoundTrip.res_6_C : RoundTrip.Statement .res_6_C :=
  roundTrip_extended rfl rfl

theorem RoundTrip.res_6_D : RoundTrip.Statement .res_6_D :=
  roundTrip_extended rfl rfl

theorem RoundTrip.res_6_E : RoundTrip.Statement .res_6_E :=
  roundTrip_extended rfl rfl

theorem RoundTrip.res_6_H : RoundTrip.Statement .res_6_H :=
  roundTrip_extended rfl rfl

theorem RoundTrip.res_6_L : RoundTrip.Statement .res_6_L :=
  roundTrip_extended rfl rfl

theorem RoundTrip.res_6_atHL : RoundTrip.Statement .res_6_atHL :=
  roundTrip_extended rfl rfl

theorem RoundTrip.res_6_A : RoundTrip.Statement .res_6_A :=
  roundTrip_extended rfl rfl

theorem RoundTrip.res_7_B : RoundTrip.Statement .res_7_B :=
  roundTrip_extended rfl rfl

theorem RoundTrip.res_7_C : RoundTrip.Statement .res_7_C :=
  roundTrip_extended rfl rfl

theorem RoundTrip.res_7_D : RoundTrip.Statement .res_7_D :=
  roundTrip_extended rfl rfl

theorem RoundTrip.res_7_E : RoundTrip.Statement .res_7_E :=
  roundTrip_extended rfl rfl

theorem RoundTrip.res_7_H : RoundTrip.Statement .res_7_H :=
  roundTrip_extended rfl rfl

theorem RoundTrip.res_7_L : RoundTrip.Statement .res_7_L :=
  roundTrip_extended rfl rfl

theorem RoundTrip.res_7_atHL : RoundTrip.Statement .res_7_atHL :=
  roundTrip_extended rfl rfl

theorem RoundTrip.res_7_A : RoundTrip.Statement .res_7_A :=
  roundTrip_extended rfl rfl

theorem RoundTrip.set_0_B : RoundTrip.Statement .set_0_B :=
  roundTrip_extended rfl rfl

theorem RoundTrip.set_0_C : RoundTrip.Statement .set_0_C :=
  roundTrip_extended rfl rfl

theorem RoundTrip.set_0_D : RoundTrip.Statement .set_0_D :=
  roundTrip_extended rfl rfl

theorem RoundTrip.set_0_E : RoundTrip.Statement .set_0_E :=
  roundTrip_extended rfl rfl

theorem RoundTrip.set_0_H : RoundTrip.Statement .set_0_H :=
  roundTrip_extended rfl rfl

theorem RoundTrip.set_0_L : RoundTrip.Statement .set_0_L :=
  roundTrip_extended rfl rfl

theorem RoundTrip.set_0_atHL : RoundTrip.Statement .set_0_atHL :=
  roundTrip_extended rfl rfl

theorem RoundTrip.set_0_A : RoundTrip.Statement .set_0_A :=
  roundTrip_extended rfl rfl

theorem RoundTrip.set_1_B : RoundTrip.Statement .set_1_B :=
  roundTrip_extended rfl rfl

theorem RoundTrip.set_1_C : RoundTrip.Statement .set_1_C :=
  roundTrip_extended rfl rfl

theorem RoundTrip.set_1_D : RoundTrip.Statement .set_1_D :=
  roundTrip_extended rfl rfl

theorem RoundTrip.set_1_E : RoundTrip.Statement .set_1_E :=
  roundTrip_extended rfl rfl

theorem RoundTrip.set_1_H : RoundTrip.Statement .set_1_H :=
  roundTrip_extended rfl rfl

theorem RoundTrip.set_1_L : RoundTrip.Statement .set_1_L :=
  roundTrip_extended rfl rfl

theorem RoundTrip.set_1_atHL : RoundTrip.Statement .set_1_atHL :=
  roundTrip_extended rfl rfl

theorem RoundTrip.set_1_A : RoundTrip.Statement .set_1_A :=
  roundTrip_extended rfl rfl

theorem RoundTrip.set_2_B : RoundTrip.Statement .set_2_B :=
  roundTrip_extended rfl rfl

theorem RoundTrip.set_2_C : RoundTrip.Statement .set_2_C :=
  roundTrip_extended rfl rfl

theorem RoundTrip.set_2_D : RoundTrip.Statement .set_2_D :=
  roundTrip_extended rfl rfl

theorem RoundTrip.set_2_E : RoundTrip.Statement .set_2_E :=
  roundTrip_extended rfl rfl

theorem RoundTrip.set_2_H : RoundTrip.Statement .set_2_H :=
  roundTrip_extended rfl rfl

theorem RoundTrip.set_2_L : RoundTrip.Statement .set_2_L :=
  roundTrip_extended rfl rfl

theorem RoundTrip.set_2_atHL : RoundTrip.Statement .set_2_atHL :=
  roundTrip_extended rfl rfl

theorem RoundTrip.set_2_A : RoundTrip.Statement .set_2_A :=
  roundTrip_extended rfl rfl

theorem RoundTrip.set_3_B : RoundTrip.Statement .set_3_B :=
  roundTrip_extended rfl rfl

theorem RoundTrip.set_3_C : RoundTrip.Statement .set_3_C :=
  roundTrip_extended rfl rfl

theorem RoundTrip.set_3_D : RoundTrip.Statement .set_3_D :=
  roundTrip_extended rfl rfl

theorem RoundTrip.set_3_E : RoundTrip.Statement .set_3_E :=
  roundTrip_extended rfl rfl

theorem RoundTrip.set_3_H : RoundTrip.Statement .set_3_H :=
  roundTrip_extended rfl rfl

theorem RoundTrip.set_3_L : RoundTrip.Statement .set_3_L :=
  roundTrip_extended rfl rfl

theorem RoundTrip.set_3_atHL : RoundTrip.Statement .set_3_atHL :=
  roundTrip_extended rfl rfl

theorem RoundTrip.set_3_A : RoundTrip.Statement .set_3_A :=
  roundTrip_extended rfl rfl

theorem RoundTrip.set_4_B : RoundTrip.Statement .set_4_B :=
  roundTrip_extended rfl rfl

theorem RoundTrip.set_4_C : RoundTrip.Statement .set_4_C :=
  roundTrip_extended rfl rfl

theorem RoundTrip.set_4_D : RoundTrip.Statement .set_4_D :=
  roundTrip_extended rfl rfl

theorem RoundTrip.set_4_E : RoundTrip.Statement .set_4_E :=
  roundTrip_extended rfl rfl

theorem RoundTrip.set_4_H : RoundTrip.Statement .set_4_H :=
  roundTrip_extended rfl rfl

theorem RoundTrip.set_4_L : RoundTrip.Statement .set_4_L :=
  roundTrip_extended rfl rfl

theorem RoundTrip.set_4_atHL : RoundTrip.Statement .set_4_atHL :=
  roundTrip_extended rfl rfl

theorem RoundTrip.set_4_A : RoundTrip.Statement .set_4_A :=
  roundTrip_extended rfl rfl

theorem RoundTrip.set_5_B : RoundTrip.Statement .set_5_B :=
  roundTrip_extended rfl rfl

theorem RoundTrip.set_5_C : RoundTrip.Statement .set_5_C :=
  roundTrip_extended rfl rfl

theorem RoundTrip.set_5_D : RoundTrip.Statement .set_5_D :=
  roundTrip_extended rfl rfl

theorem RoundTrip.set_5_E : RoundTrip.Statement .set_5_E :=
  roundTrip_extended rfl rfl

theorem RoundTrip.set_5_H : RoundTrip.Statement .set_5_H :=
  roundTrip_extended rfl rfl

theorem RoundTrip.set_5_L : RoundTrip.Statement .set_5_L :=
  roundTrip_extended rfl rfl

theorem RoundTrip.set_5_atHL : RoundTrip.Statement .set_5_atHL :=
  roundTrip_extended rfl rfl

theorem RoundTrip.set_5_A : RoundTrip.Statement .set_5_A :=
  roundTrip_extended rfl rfl

theorem RoundTrip.set_6_B : RoundTrip.Statement .set_6_B :=
  roundTrip_extended rfl rfl

theorem RoundTrip.set_6_C : RoundTrip.Statement .set_6_C :=
  roundTrip_extended rfl rfl

theorem RoundTrip.set_6_D : RoundTrip.Statement .set_6_D :=
  roundTrip_extended rfl rfl

theorem RoundTrip.set_6_E : RoundTrip.Statement .set_6_E :=
  roundTrip_extended rfl rfl

theorem RoundTrip.set_6_H : RoundTrip.Statement .set_6_H :=
  roundTrip_extended rfl rfl

theorem RoundTrip.set_6_L : RoundTrip.Statement .set_6_L :=
  roundTrip_extended rfl rfl

theorem RoundTrip.set_6_atHL : RoundTrip.Statement .set_6_atHL :=
  roundTrip_extended rfl rfl

theorem RoundTrip.set_6_A : RoundTrip.Statement .set_6_A :=
  roundTrip_extended rfl rfl

theorem RoundTrip.set_7_B : RoundTrip.Statement .set_7_B :=
  roundTrip_extended rfl rfl

theorem RoundTrip.set_7_C : RoundTrip.Statement .set_7_C :=
  roundTrip_extended rfl rfl

theorem RoundTrip.set_7_D : RoundTrip.Statement .set_7_D :=
  roundTrip_extended rfl rfl

theorem RoundTrip.set_7_E : RoundTrip.Statement .set_7_E :=
  roundTrip_extended rfl rfl

theorem RoundTrip.set_7_H : RoundTrip.Statement .set_7_H :=
  roundTrip_extended rfl rfl

theorem RoundTrip.set_7_L : RoundTrip.Statement .set_7_L :=
  roundTrip_extended rfl rfl

theorem RoundTrip.set_7_atHL : RoundTrip.Statement .set_7_atHL :=
  roundTrip_extended rfl rfl

theorem RoundTrip.set_7_A : RoundTrip.Statement .set_7_A :=
  roundTrip_extended rfl rfl

end Sys2Proof.Laws
end

