-- ==== Sys2Proof/Machine/Assembly.lean ====
section
/-! DEFINITION. The assembler's spelling (spec/30_encoding.md R79, R80). It has no part in execution: the step never reads it. -/

namespace Sys2Proof

/-- The map cell of an instruction (R74, R75, R79), its immediate under its conventional name; an undefined byte's cell is `—`. -/
def Instr.spelling : Instr → String
  | .nop => "NOP"
  | .ld_BC_d16 _ => "LD BC,d16"
  | .ld_atBC_A => "LD (BC),A"
  | .inc_BC => "INC BC"
  | .inc_B => "INC B"
  | .dec_B => "DEC B"
  | .ld_B_d8 _ => "LD B,d8"
  | .rlca => "RLCA"
  | .ld_atA16_SP _ => "LD (a16),SP"
  | .add_HL_BC => "ADD HL,BC"
  | .ld_A_atBC => "LD A,(BC)"
  | .dec_BC => "DEC BC"
  | .inc_C => "INC C"
  | .dec_C => "DEC C"
  | .ld_C_d8 _ => "LD C,d8"
  | .rrca => "RRCA"
  | .stop _ => "STOP"
  | .ld_DE_d16 _ => "LD DE,d16"
  | .ld_atDE_A => "LD (DE),A"
  | .inc_DE => "INC DE"
  | .inc_D => "INC D"
  | .dec_D => "DEC D"
  | .ld_D_d8 _ => "LD D,d8"
  | .rla => "RLA"
  | .jr_r8 _ => "JR r8"
  | .add_HL_DE => "ADD HL,DE"
  | .ld_A_atDE => "LD A,(DE)"
  | .dec_DE => "DEC DE"
  | .inc_E => "INC E"
  | .dec_E => "DEC E"
  | .ld_E_d8 _ => "LD E,d8"
  | .rra => "RRA"
  | .jr_NZ_r8 _ => "JR NZ,r8"
  | .ld_HL_d16 _ => "LD HL,d16"
  | .ld_atHLI_A => "LD (HL+),A"
  | .inc_HL => "INC HL"
  | .inc_H => "INC H"
  | .dec_H => "DEC H"
  | .ld_H_d8 _ => "LD H,d8"
  | .daa => "DAA"
  | .jr_Z_r8 _ => "JR Z,r8"
  | .add_HL_HL => "ADD HL,HL"
  | .ld_A_atHLI => "LD A,(HL+)"
  | .dec_HL => "DEC HL"
  | .inc_L => "INC L"
  | .dec_L => "DEC L"
  | .ld_L_d8 _ => "LD L,d8"
  | .cpl => "CPL"
  | .jr_NC_r8 _ => "JR NC,r8"
  | .ld_SP_d16 _ => "LD SP,d16"
  | .ld_atHLD_A => "LD (HL-),A"
  | .inc_SP => "INC SP"
  | .inc_atHL => "INC (HL)"
  | .dec_atHL => "DEC (HL)"
  | .ld_atHL_d8 _ => "LD (HL),d8"
  | .scf => "SCF"
  | .jr_C_r8 _ => "JR C,r8"
  | .add_HL_SP => "ADD HL,SP"
  | .ld_A_atHLD => "LD A,(HL-)"
  | .dec_SP => "DEC SP"
  | .inc_A => "INC A"
  | .dec_A => "DEC A"
  | .ld_A_d8 _ => "LD A,d8"
  | .ccf => "CCF"
  | .ld_B_B => "LD B,B"
  | .ld_B_C => "LD B,C"
  | .ld_B_D => "LD B,D"
  | .ld_B_E => "LD B,E"
  | .ld_B_H => "LD B,H"
  | .ld_B_L => "LD B,L"
  | .ld_B_atHL => "LD B,(HL)"
  | .ld_B_A => "LD B,A"
  | .ld_C_B => "LD C,B"
  | .ld_C_C => "LD C,C"
  | .ld_C_D => "LD C,D"
  | .ld_C_E => "LD C,E"
  | .ld_C_H => "LD C,H"
  | .ld_C_L => "LD C,L"
  | .ld_C_atHL => "LD C,(HL)"
  | .ld_C_A => "LD C,A"
  | .ld_D_B => "LD D,B"
  | .ld_D_C => "LD D,C"
  | .ld_D_D => "LD D,D"
  | .ld_D_E => "LD D,E"
  | .ld_D_H => "LD D,H"
  | .ld_D_L => "LD D,L"
  | .ld_D_atHL => "LD D,(HL)"
  | .ld_D_A => "LD D,A"
  | .ld_E_B => "LD E,B"
  | .ld_E_C => "LD E,C"
  | .ld_E_D => "LD E,D"
  | .ld_E_E => "LD E,E"
  | .ld_E_H => "LD E,H"
  | .ld_E_L => "LD E,L"
  | .ld_E_atHL => "LD E,(HL)"
  | .ld_E_A => "LD E,A"
  | .ld_H_B => "LD H,B"
  | .ld_H_C => "LD H,C"
  | .ld_H_D => "LD H,D"
  | .ld_H_E => "LD H,E"
  | .ld_H_H => "LD H,H"
  | .ld_H_L => "LD H,L"
  | .ld_H_atHL => "LD H,(HL)"
  | .ld_H_A => "LD H,A"
  | .ld_L_B => "LD L,B"
  | .ld_L_C => "LD L,C"
  | .ld_L_D => "LD L,D"
  | .ld_L_E => "LD L,E"
  | .ld_L_H => "LD L,H"
  | .ld_L_L => "LD L,L"
  | .ld_L_atHL => "LD L,(HL)"
  | .ld_L_A => "LD L,A"
  | .ld_atHL_B => "LD (HL),B"
  | .ld_atHL_C => "LD (HL),C"
  | .ld_atHL_D => "LD (HL),D"
  | .ld_atHL_E => "LD (HL),E"
  | .ld_atHL_H => "LD (HL),H"
  | .ld_atHL_L => "LD (HL),L"
  | .halt => "HALT"
  | .ld_atHL_A => "LD (HL),A"
  | .ld_A_B => "LD A,B"
  | .ld_A_C => "LD A,C"
  | .ld_A_D => "LD A,D"
  | .ld_A_E => "LD A,E"
  | .ld_A_H => "LD A,H"
  | .ld_A_L => "LD A,L"
  | .ld_A_atHL => "LD A,(HL)"
  | .ld_A_A => "LD A,A"
  | .add_A_B => "ADD A,B"
  | .add_A_C => "ADD A,C"
  | .add_A_D => "ADD A,D"
  | .add_A_E => "ADD A,E"
  | .add_A_H => "ADD A,H"
  | .add_A_L => "ADD A,L"
  | .add_A_atHL => "ADD A,(HL)"
  | .add_A_A => "ADD A,A"
  | .adc_A_B => "ADC A,B"
  | .adc_A_C => "ADC A,C"
  | .adc_A_D => "ADC A,D"
  | .adc_A_E => "ADC A,E"
  | .adc_A_H => "ADC A,H"
  | .adc_A_L => "ADC A,L"
  | .adc_A_atHL => "ADC A,(HL)"
  | .adc_A_A => "ADC A,A"
  | .sub_B => "SUB B"
  | .sub_C => "SUB C"
  | .sub_D => "SUB D"
  | .sub_E => "SUB E"
  | .sub_H => "SUB H"
  | .sub_L => "SUB L"
  | .sub_atHL => "SUB (HL)"
  | .sub_A => "SUB A"
  | .sbc_A_B => "SBC A,B"
  | .sbc_A_C => "SBC A,C"
  | .sbc_A_D => "SBC A,D"
  | .sbc_A_E => "SBC A,E"
  | .sbc_A_H => "SBC A,H"
  | .sbc_A_L => "SBC A,L"
  | .sbc_A_atHL => "SBC A,(HL)"
  | .sbc_A_A => "SBC A,A"
  | .and_B => "AND B"
  | .and_C => "AND C"
  | .and_D => "AND D"
  | .and_E => "AND E"
  | .and_H => "AND H"
  | .and_L => "AND L"
  | .and_atHL => "AND (HL)"
  | .and_A => "AND A"
  | .xor_B => "XOR B"
  | .xor_C => "XOR C"
  | .xor_D => "XOR D"
  | .xor_E => "XOR E"
  | .xor_H => "XOR H"
  | .xor_L => "XOR L"
  | .xor_atHL => "XOR (HL)"
  | .xor_A => "XOR A"
  | .or_B => "OR B"
  | .or_C => "OR C"
  | .or_D => "OR D"
  | .or_E => "OR E"
  | .or_H => "OR H"
  | .or_L => "OR L"
  | .or_atHL => "OR (HL)"
  | .or_A => "OR A"
  | .cp_B => "CP B"
  | .cp_C => "CP C"
  | .cp_D => "CP D"
  | .cp_E => "CP E"
  | .cp_H => "CP H"
  | .cp_L => "CP L"
  | .cp_atHL => "CP (HL)"
  | .cp_A => "CP A"
  | .ret_NZ => "RET NZ"
  | .pop_BC => "POP BC"
  | .jp_NZ_a16 _ => "JP NZ,a16"
  | .jp_a16 _ => "JP a16"
  | .call_NZ_a16 _ => "CALL NZ,a16"
  | .push_BC => "PUSH BC"
  | .add_A_d8 _ => "ADD A,d8"
  | .rst_00H => "RST 00H"
  | .ret_Z => "RET Z"
  | .ret => "RET"
  | .jp_Z_a16 _ => "JP Z,a16"
  | .call_Z_a16 _ => "CALL Z,a16"
  | .call_a16 _ => "CALL a16"
  | .adc_A_d8 _ => "ADC A,d8"
  | .rst_08H => "RST 08H"
  | .ret_NC => "RET NC"
  | .pop_DE => "POP DE"
  | .jp_NC_a16 _ => "JP NC,a16"
  | .undefined _ => "—"
  | .call_NC_a16 _ => "CALL NC,a16"
  | .push_DE => "PUSH DE"
  | .sub_d8 _ => "SUB d8"
  | .rst_10H => "RST 10H"
  | .ret_C => "RET C"
  | .reti => "RETI"
  | .jp_C_a16 _ => "JP C,a16"
  | .call_C_a16 _ => "CALL C,a16"
  | .sbc_A_d8 _ => "SBC A,d8"
  | .rst_18H => "RST 18H"
  | .ldh_atA8_A _ => "LDH (a8),A"
  | .pop_HL => "POP HL"
  | .ld_atC_A => "LD (C),A"
  | .push_HL => "PUSH HL"
  | .and_d8 _ => "AND d8"
  | .rst_20H => "RST 20H"
  | .add_SP_r8 _ => "ADD SP,r8"
  | .jp_HL => "JP HL"
  | .ld_atA16_A _ => "LD (a16),A"
  | .xor_d8 _ => "XOR d8"
  | .rst_28H => "RST 28H"
  | .ldh_A_atA8 _ => "LDH A,(a8)"
  | .pop_AF => "POP AF"
  | .ld_A_atC => "LD A,(C)"
  | .di => "DI"
  | .push_AF => "PUSH AF"
  | .or_d8 _ => "OR d8"
  | .rst_30H => "RST 30H"
  | .ld_HL_SPr8 _ => "LD HL,SP+r8"
  | .ld_SP_HL => "LD SP,HL"
  | .ld_A_atA16 _ => "LD A,(a16)"
  | .ei => "EI"
  | .cp_d8 _ => "CP d8"
  | .rst_38H => "RST 38H"
  | .rlc_B => "RLC B"
  | .rlc_C => "RLC C"
  | .rlc_D => "RLC D"
  | .rlc_E => "RLC E"
  | .rlc_H => "RLC H"
  | .rlc_L => "RLC L"
  | .rlc_atHL => "RLC (HL)"
  | .rlc_A => "RLC A"
  | .rrc_B => "RRC B"
  | .rrc_C => "RRC C"
  | .rrc_D => "RRC D"
  | .rrc_E => "RRC E"
  | .rrc_H => "RRC H"
  | .rrc_L => "RRC L"
  | .rrc_atHL => "RRC (HL)"
  | .rrc_A => "RRC A"
  | .rl_B => "RL B"
  | .rl_C => "RL C"
  | .rl_D => "RL D"
  | .rl_E => "RL E"
  | .rl_H => "RL H"
  | .rl_L => "RL L"
  | .rl_atHL => "RL (HL)"
  | .rl_A => "RL A"
  | .rr_B => "RR B"
  | .rr_C => "RR C"
  | .rr_D => "RR D"
  | .rr_E => "RR E"
  | .rr_H => "RR H"
  | .rr_L => "RR L"
  | .rr_atHL => "RR (HL)"
  | .rr_A => "RR A"
  | .sla_B => "SLA B"
  | .sla_C => "SLA C"
  | .sla_D => "SLA D"
  | .sla_E => "SLA E"
  | .sla_H => "SLA H"
  | .sla_L => "SLA L"
  | .sla_atHL => "SLA (HL)"
  | .sla_A => "SLA A"
  | .sra_B => "SRA B"
  | .sra_C => "SRA C"
  | .sra_D => "SRA D"
  | .sra_E => "SRA E"
  | .sra_H => "SRA H"
  | .sra_L => "SRA L"
  | .sra_atHL => "SRA (HL)"
  | .sra_A => "SRA A"
  | .swap_B => "SWAP B"
  | .swap_C => "SWAP C"
  | .swap_D => "SWAP D"
  | .swap_E => "SWAP E"
  | .swap_H => "SWAP H"
  | .swap_L => "SWAP L"
  | .swap_atHL => "SWAP (HL)"
  | .swap_A => "SWAP A"
  | .srl_B => "SRL B"
  | .srl_C => "SRL C"
  | .srl_D => "SRL D"
  | .srl_E => "SRL E"
  | .srl_H => "SRL H"
  | .srl_L => "SRL L"
  | .srl_atHL => "SRL (HL)"
  | .srl_A => "SRL A"
  | .bit_0_B => "BIT 0,B"
  | .bit_0_C => "BIT 0,C"
  | .bit_0_D => "BIT 0,D"
  | .bit_0_E => "BIT 0,E"
  | .bit_0_H => "BIT 0,H"
  | .bit_0_L => "BIT 0,L"
  | .bit_0_atHL => "BIT 0,(HL)"
  | .bit_0_A => "BIT 0,A"
  | .bit_1_B => "BIT 1,B"
  | .bit_1_C => "BIT 1,C"
  | .bit_1_D => "BIT 1,D"
  | .bit_1_E => "BIT 1,E"
  | .bit_1_H => "BIT 1,H"
  | .bit_1_L => "BIT 1,L"
  | .bit_1_atHL => "BIT 1,(HL)"
  | .bit_1_A => "BIT 1,A"
  | .bit_2_B => "BIT 2,B"
  | .bit_2_C => "BIT 2,C"
  | .bit_2_D => "BIT 2,D"
  | .bit_2_E => "BIT 2,E"
  | .bit_2_H => "BIT 2,H"
  | .bit_2_L => "BIT 2,L"
  | .bit_2_atHL => "BIT 2,(HL)"
  | .bit_2_A => "BIT 2,A"
  | .bit_3_B => "BIT 3,B"
  | .bit_3_C => "BIT 3,C"
  | .bit_3_D => "BIT 3,D"
  | .bit_3_E => "BIT 3,E"
  | .bit_3_H => "BIT 3,H"
  | .bit_3_L => "BIT 3,L"
  | .bit_3_atHL => "BIT 3,(HL)"
  | .bit_3_A => "BIT 3,A"
  | .bit_4_B => "BIT 4,B"
  | .bit_4_C => "BIT 4,C"
  | .bit_4_D => "BIT 4,D"
  | .bit_4_E => "BIT 4,E"
  | .bit_4_H => "BIT 4,H"
  | .bit_4_L => "BIT 4,L"
  | .bit_4_atHL => "BIT 4,(HL)"
  | .bit_4_A => "BIT 4,A"
  | .bit_5_B => "BIT 5,B"
  | .bit_5_C => "BIT 5,C"
  | .bit_5_D => "BIT 5,D"
  | .bit_5_E => "BIT 5,E"
  | .bit_5_H => "BIT 5,H"
  | .bit_5_L => "BIT 5,L"
  | .bit_5_atHL => "BIT 5,(HL)"
  | .bit_5_A => "BIT 5,A"
  | .bit_6_B => "BIT 6,B"
  | .bit_6_C => "BIT 6,C"
  | .bit_6_D => "BIT 6,D"
  | .bit_6_E => "BIT 6,E"
  | .bit_6_H => "BIT 6,H"
  | .bit_6_L => "BIT 6,L"
  | .bit_6_atHL => "BIT 6,(HL)"
  | .bit_6_A => "BIT 6,A"
  | .bit_7_B => "BIT 7,B"
  | .bit_7_C => "BIT 7,C"
  | .bit_7_D => "BIT 7,D"
  | .bit_7_E => "BIT 7,E"
  | .bit_7_H => "BIT 7,H"
  | .bit_7_L => "BIT 7,L"
  | .bit_7_atHL => "BIT 7,(HL)"
  | .bit_7_A => "BIT 7,A"
  | .res_0_B => "RES 0,B"
  | .res_0_C => "RES 0,C"
  | .res_0_D => "RES 0,D"
  | .res_0_E => "RES 0,E"
  | .res_0_H => "RES 0,H"
  | .res_0_L => "RES 0,L"
  | .res_0_atHL => "RES 0,(HL)"
  | .res_0_A => "RES 0,A"
  | .res_1_B => "RES 1,B"
  | .res_1_C => "RES 1,C"
  | .res_1_D => "RES 1,D"
  | .res_1_E => "RES 1,E"
  | .res_1_H => "RES 1,H"
  | .res_1_L => "RES 1,L"
  | .res_1_atHL => "RES 1,(HL)"
  | .res_1_A => "RES 1,A"
  | .res_2_B => "RES 2,B"
  | .res_2_C => "RES 2,C"
  | .res_2_D => "RES 2,D"
  | .res_2_E => "RES 2,E"
  | .res_2_H => "RES 2,H"
  | .res_2_L => "RES 2,L"
  | .res_2_atHL => "RES 2,(HL)"
  | .res_2_A => "RES 2,A"
  | .res_3_B => "RES 3,B"
  | .res_3_C => "RES 3,C"
  | .res_3_D => "RES 3,D"
  | .res_3_E => "RES 3,E"
  | .res_3_H => "RES 3,H"
  | .res_3_L => "RES 3,L"
  | .res_3_atHL => "RES 3,(HL)"
  | .res_3_A => "RES 3,A"
  | .res_4_B => "RES 4,B"
  | .res_4_C => "RES 4,C"
  | .res_4_D => "RES 4,D"
  | .res_4_E => "RES 4,E"
  | .res_4_H => "RES 4,H"
  | .res_4_L => "RES 4,L"
  | .res_4_atHL => "RES 4,(HL)"
  | .res_4_A => "RES 4,A"
  | .res_5_B => "RES 5,B"
  | .res_5_C => "RES 5,C"
  | .res_5_D => "RES 5,D"
  | .res_5_E => "RES 5,E"
  | .res_5_H => "RES 5,H"
  | .res_5_L => "RES 5,L"
  | .res_5_atHL => "RES 5,(HL)"
  | .res_5_A => "RES 5,A"
  | .res_6_B => "RES 6,B"
  | .res_6_C => "RES 6,C"
  | .res_6_D => "RES 6,D"
  | .res_6_E => "RES 6,E"
  | .res_6_H => "RES 6,H"
  | .res_6_L => "RES 6,L"
  | .res_6_atHL => "RES 6,(HL)"
  | .res_6_A => "RES 6,A"
  | .res_7_B => "RES 7,B"
  | .res_7_C => "RES 7,C"
  | .res_7_D => "RES 7,D"
  | .res_7_E => "RES 7,E"
  | .res_7_H => "RES 7,H"
  | .res_7_L => "RES 7,L"
  | .res_7_atHL => "RES 7,(HL)"
  | .res_7_A => "RES 7,A"
  | .set_0_B => "SET 0,B"
  | .set_0_C => "SET 0,C"
  | .set_0_D => "SET 0,D"
  | .set_0_E => "SET 0,E"
  | .set_0_H => "SET 0,H"
  | .set_0_L => "SET 0,L"
  | .set_0_atHL => "SET 0,(HL)"
  | .set_0_A => "SET 0,A"
  | .set_1_B => "SET 1,B"
  | .set_1_C => "SET 1,C"
  | .set_1_D => "SET 1,D"
  | .set_1_E => "SET 1,E"
  | .set_1_H => "SET 1,H"
  | .set_1_L => "SET 1,L"
  | .set_1_atHL => "SET 1,(HL)"
  | .set_1_A => "SET 1,A"
  | .set_2_B => "SET 2,B"
  | .set_2_C => "SET 2,C"
  | .set_2_D => "SET 2,D"
  | .set_2_E => "SET 2,E"
  | .set_2_H => "SET 2,H"
  | .set_2_L => "SET 2,L"
  | .set_2_atHL => "SET 2,(HL)"
  | .set_2_A => "SET 2,A"
  | .set_3_B => "SET 3,B"
  | .set_3_C => "SET 3,C"
  | .set_3_D => "SET 3,D"
  | .set_3_E => "SET 3,E"
  | .set_3_H => "SET 3,H"
  | .set_3_L => "SET 3,L"
  | .set_3_atHL => "SET 3,(HL)"
  | .set_3_A => "SET 3,A"
  | .set_4_B => "SET 4,B"
  | .set_4_C => "SET 4,C"
  | .set_4_D => "SET 4,D"
  | .set_4_E => "SET 4,E"
  | .set_4_H => "SET 4,H"
  | .set_4_L => "SET 4,L"
  | .set_4_atHL => "SET 4,(HL)"
  | .set_4_A => "SET 4,A"
  | .set_5_B => "SET 5,B"
  | .set_5_C => "SET 5,C"
  | .set_5_D => "SET 5,D"
  | .set_5_E => "SET 5,E"
  | .set_5_H => "SET 5,H"
  | .set_5_L => "SET 5,L"
  | .set_5_atHL => "SET 5,(HL)"
  | .set_5_A => "SET 5,A"
  | .set_6_B => "SET 6,B"
  | .set_6_C => "SET 6,C"
  | .set_6_D => "SET 6,D"
  | .set_6_E => "SET 6,E"
  | .set_6_H => "SET 6,H"
  | .set_6_L => "SET 6,L"
  | .set_6_atHL => "SET 6,(HL)"
  | .set_6_A => "SET 6,A"
  | .set_7_B => "SET 7,B"
  | .set_7_C => "SET 7,C"
  | .set_7_D => "SET 7,D"
  | .set_7_E => "SET 7,E"
  | .set_7_H => "SET 7,H"
  | .set_7_L => "SET 7,L"
  | .set_7_atHL => "SET 7,(HL)"
  | .set_7_A => "SET 7,A"

/-- The other spellings assemblers accept, each with the form it stands for (R80); `x` is any operand of the form. -/
def alternativeSpellings : List (String × String) :=
  [("LDI A,(HL)", "LD A,(HL+)"), ("LD A,[HL+]", "LD A,(HL+)"), ("LDD (HL),A", "LD (HL-),A"), ("JP (HL)", "JP HL"),
   ("LD ($FF00+a8),A", "LDH (a8),A"), ("LD ($FF00+C),A", "LD (C),A"), ("ADD x", "ADD A,x"), ("ADC x", "ADC A,x"),
   ("SBC x", "SBC A,x"), ("SUB A,x", "SUB x"), ("AND A,x", "AND x"), ("XOR A,x", "XOR x"), ("OR A,x", "OR x"),
   ("CP A,x", "CP x"), ("LDHL SP,r8", "LD HL,SP+r8"), ("[ ]", "( )")]

/-- The r8 an assembler encodes for a JR at `addr` to `target`: `target - (addr + 2)` (R79), where it fits a signed byte. -/
def relativeOffset (addr target : Word) : Option Byte :=
  let d := target - (addr + 2)
  if sext16 (loByte d) = d then some (loByte d) else none

end Sys2Proof
end

