-- ==== Sys2Proof/Tests/Slice0.lean ====
section
/-! SUPPORT. Tests on one step each, their expected results the worked examples of spec/ (the rule is named), the WellFormed
smoke, decoding of words written out from spec/30_encoding.md, and a witness for the hypotheses of each statement. -/

-- The many small theorems of this file are elaborated one after another.
set_option Elab.async false

namespace Sys2Proof.Tests

open Sys2Proof.Machine

/-! ## Helpers -/

/-- `s` with these bytes at consecutive storage addresses from `addr` on. -/
def withBytes (addr : Nat) (bytes : List Byte) (s : State) : State :=
  match bytes with
  | [] => s
  | b :: rest => withBytes (addr + 1) rest { s with mem := Memory.write s.mem addr b }

/-- What `view` shows of the state after one step of `s` with `code` at PC. -/
def after {α : Type} (code : List Byte) (s : State) (view : State → α) : Option α :=
  match step (withBytes s.pc.toNat code s) with
  | .next t => some (view t)
  | _ => none

/-- What `view` shows of the report of a step of `s` with `code` at PC. -/
def report {α : Type} (code : List Byte) (s : State) (view : StepReport → α) : Option α :=
  match engineStep (withBytes s.pc.toNat code s) with
  | .next r => some (view r)
  | _ => none

/-- The state after reset. -/
abbrev base : State := State.reset

/-- The byte at a storage address. -/
def byteAt (t : State) (addr : Nat) : Byte := Memory.read t.mem addr

/-! ## WellFormed: the one check, and the term it refuses -/

theorem test_wellFormed_refuses_a_defined_byte : Instr.wellFormed (.undefined 0x00) = false := by decide
theorem test_wellFormed_refuses_the_prefix : Instr.wellFormed (.undefined 0xCB) = false := by decide
theorem test_wellFormed_accepts_the_eleven : (undefinedOpcodes.map fun b => Instr.wellFormed (.undefined b)) = List.replicate 11 true := by
  decide
theorem test_wellFormed_accepts_every_immediate : Instr.wellFormed (.ld_A_d8 0xFF) = true := by decide

/-! ## Decoding: bytes written from R70 to R75 -/

theorem test_decode_ld_r_r : decode [0b01001000] = .ok (.ld_C_B, []) := by decide
theorem test_decode_ld_r_d8 : decode [0b00101110, 0x7F] = .ok (.ld_L_d8 0x7F, []) := by decide
theorem test_decode_ld_r_atHL : decode [0b01011110] = .ok (.ld_E_atHL, []) := by decide
theorem test_decode_ld_atHL_r : decode [0b01110100] = .ok (.ld_atHL_H, []) := by decide
theorem test_decode_ld_atHL_d8 : decode [0b00110110, 0x42] = .ok (.ld_atHL_d8 0x42, []) := by decide
theorem test_decode_ld_a16_A : decode [0b11101010, 0x07, 0xFF] = .ok (.ld_atA16_A 0xFF07, []) := by decide
theorem test_decode_ldh : decode [0b11100000, 0x0F] = .ok (.ldh_atA8_A 0x0F, []) := by decide
theorem test_decode_ld_rr_d16 : decode [0b00110001, 0xFE, 0xFF] = .ok (.ld_SP_d16 0xFFFE, []) := by decide
theorem test_decode_ld_a16_SP : decode [0b00001000, 0x00, 0xC1] = .ok (.ld_atA16_SP 0xC100, []) := by decide
theorem test_decode_push : decode [0b11010101] = .ok (.push_DE, []) := by decide
theorem test_decode_pop : decode [0b11110001] = .ok (.pop_AF, []) := by decide
theorem test_decode_alu_r : decode [0b10010011] = .ok (.sub_E, []) := by decide
theorem test_decode_alu_d8 : decode [0b11101110, 0x0F] = .ok (.xor_d8 0x0F, []) := by decide
theorem test_decode_inc : decode [0b00110100] = .ok (.inc_atHL, []) := by decide
theorem test_decode_dec : decode [0b00111101] = .ok (.dec_A, []) := by decide
theorem test_decode_add_HL : decode [0b00011001] = .ok (.add_HL_DE, []) := by decide
theorem test_decode_inc_rr : decode [0b00100011] = .ok (.inc_HL, []) := by decide
theorem test_decode_dec_rr : decode [0b00001011] = .ok (.dec_BC, []) := by decide
theorem test_decode_rotate_A : decode [0b00011111] = .ok (.rra, []) := by decide
theorem test_decode_shift : decode [0b11001011, 0b00101111] = .ok (.sra_A, []) := by decide
theorem test_decode_bit : decode [0b11001011, 0b01111100] = .ok (.bit_7_H, []) := by decide
theorem test_decode_res : decode [0b11001011, 0b10000110] = .ok (.res_0_atHL, []) := by decide
theorem test_decode_set : decode [0b11001011, 0b11010110] = .ok (.set_2_atHL, []) := by decide
theorem test_decode_jp_cc : decode [0b11011010, 0x00, 0x03] = .ok (.jp_C_a16 0x0300, []) := by decide
theorem test_decode_jr_cc : decode [0b00110000, 0xFB] = .ok (.jr_NC_r8 0xFB, []) := by decide
theorem test_decode_call_cc : decode [0b11001100, 0x34, 0x12] = .ok (.call_Z_a16 0x1234, []) := by decide
theorem test_decode_ret_cc : decode [0b11000000] = .ok (.ret_NZ, []) := by decide
theorem test_decode_rst : decode [0b11111111] = .ok (.rst_38H, []) := by decide
theorem test_decode_halt : decode [0b01110110] = .ok (.halt, []) := by decide
theorem test_decode_stop_any_pad : decode [0b00010000, 0xA5] = .ok (.stop 0xA5, []) := by decide
theorem test_decode_undefined : decode [0xFD] = .ok (.undefined 0xFD, []) := by decide
theorem test_decode_too_short : decode [0xC3, 0x50] = .error .tooShort := by decide
theorem test_tableWord_prefix_high : decodeTableWord 16 0xCB7C = some .bit_7_H := by decide
theorem test_tableWord_first_byte_low : decodeTableWord 24 0x895F11 = some (.ld_DE_d16 0x895F) := by decide

/-! ## One step: the worked examples of the instruction rules -/

theorem test_R90_ld_C_B : after [0x48] { base with b := 0x12 } (fun t => (t.c, t.pc, t.div16)) = some (0x12, 0x0101, 4) := by
  decide +kernel
theorem test_R91_ld_B_d8 : after [0x06, 0xFF] base (fun t => (t.b, t.pc)) = some (0xFF, 0x0102) := by decide +kernel
theorem test_R92_ld_A_atHL : after [0x7E] (withBytes 0xC000 [0x5A] { base with h := 0xC0 }) (·.a) = some 0x5A := by
  decide +kernel
theorem test_R92_ld_H_reads_through_old_HL : after [0x66] (withBytes 0xC012 [0x99] { base with h := 0xC0, l := 0x12 })
    (fun t => (t.h, t.l)) = some (0x99, 0x12) := by decide +kernel
theorem test_R93_ld_atHL_A : after [0x77] { base with h := 0xC0, l := 0x10, a := 0x99 } (byteAt · 0xC010) = some 0x99 := by
  decide +kernel
theorem test_R93_ld_atHL_H_stores_address_byte : after [0x74] { base with h := 0xC3 } (byteAt · 0xC300) = some 0xC3 := by
  decide +kernel
theorem test_R94_ld_atHL_d8 : after [0x36, 0x42] { base with h := 0xFF, l := 0x80 } (fun t => (byteAt t 0xFF80, t.pc)) =
    some (0x42, 0x0102) := by decide +kernel
theorem test_R95_unmapped_reads_FF : after [0x0A] { base with b := 0xA0 } (·.a) = some 0xFF := by decide +kernel
theorem test_R96_ld_A_atDE_rom : after [0x1A] (withBytes 0x0150 [0xC3] { base with d := 0x01, e := 0x50 }) (·.a) =
    some 0xC3 := by decide +kernel
theorem test_R97_ld_atBC_writes_IE : after [0x02] { base with b := 0xFF, c := 0xFF, a := 0x11 } (·.ie) = some 0x11 := by
  decide +kernel
theorem test_R98_ld_atDE_echo : after [0x12] { base with d := 0xE0, e := 0x05, a := 0x3C } (byteAt · 0xC005) = some 0x3C := by
  decide +kernel
theorem test_R99_ld_A_a16 : after [0xFA, 0x0F, 0xFF] { base with ifl := 0x04 } (fun t => (t.a, t.pc)) = some (0xE4, 0x0103) := by
  decide +kernel
theorem test_R100_ld_a16_A_sets_TAC : after [0xEA, 0x07, 0xFF] { base with a := 0x05 } (·.tac) = some 0b101 := by decide +kernel
theorem test_R101_ldh_A_TIMA : after [0xF0, 0x05] { base with tima := 0x3F } (·.a) = some 0x3F := by decide +kernel
theorem test_R102_ldh_IE : after [0xE0, 0xFF] { base with a := 0x04 } (·.ie) = some 0x04 := by decide +kernel
theorem test_R103_ld_A_atC : after [0xF2] (withBytes 0xFF80 [0x66] { base with c := 0x80 }) (·.a) = some 0x66 := by decide +kernel
theorem test_R104_ld_atC_A_resets_divider : after [0xE2] { base with c := 0x04, div16 := 0x1234 } (·.div16) = some 8 := by
  decide +kernel
theorem test_R105_ld_A_HLI_wraps : after [0x2A] { base with h := 0xFF, l := 0xFF, ie := 0x15 } (fun t => (t.a, t.h, t.l)) =
    some (0x15, 0x00, 0x00) := by decide +kernel
theorem test_R106_ld_A_HLD_wraps : after [0x3A] (withBytes 0 [0x21] base) (fun t => (t.a, t.h, t.l)) = some (0x21, 0xFF, 0xFF) := by
  decide +kernel
theorem test_R107_ld_HLI_A : after [0x22] { base with h := 0xC0, a := 0xAA } (fun t => (byteAt t 0xC000, t.h, t.l)) =
    some (0xAA, 0xC0, 0x01) := by decide +kernel
theorem test_R108_ld_HLD_A_rom_dropped : after [0x32] { base with a := 0x77 } (fun t => (byteAt t 0, t.h, t.l)) =
    some (0x00, 0xFF, 0xFF) := by decide +kernel
theorem test_R109_ld_DE_d16 : after [0x11, 0x5F, 0x89] base (fun t => (t.d, t.e, t.pc)) = some (0x89, 0x5F, 0x0103) := by
  decide +kernel
theorem test_R110_ld_a16_SP : after [0x08, 0x00, 0xC1] { base with sp := 0xFFF8 } (fun t => (byteAt t 0xC100, byteAt t 0xC101)) =
    some (0xF8, 0xFF) := by decide +kernel
theorem test_R110_ld_FFFF_SP : after [0x08, 0xFF, 0xFF] { base with sp := 0x1234 } (fun t => (t.ie, byteAt t 0)) =
    some (0x34, 0x00) := by decide +kernel
theorem test_R111_ld_SP_HL : after [0xF9] { base with h := 0xDF, l := 0xF0 } (·.sp) = some 0xDFF0 := by decide +kernel
theorem test_R112_ld_HL_SPr8 : after [0xF8, 0x08] { base with sp := 0xFFF8 } (fun t => (t.hl, t.f.toByte)) = some (0x0000, 0x30) := by
  decide +kernel
theorem test_R112_minus_one : after [0xF8, 0xFF] { base with sp := 0x0000 } (fun t => (t.hl, t.f.toByte, t.sp)) =
    some (0xFFFF, 0x00, 0x0000) := by decide +kernel
theorem test_R115_push_BC : after [0xC5] { base with b := 0x12, c := 0x34 } (fun t => (byteAt t 0xFFFD, byteAt t 0xFFFC, t.sp)) =
    some (0x12, 0x34, 0xFFFC) := by decide +kernel
theorem test_R115_push_at_0000 : after [0xC5] { base with sp := 0, b := 0x12, c := 0x34 } (fun t => (t.ie, byteAt t 0xFFFE, t.sp)) =
    some (0x12, 0x34, 0xFFFE) := by decide +kernel
theorem test_R116_pop_DE : after [0xD1] (withBytes 0xFFFC [0x34, 0x12] { base with sp := 0xFFFC }) (fun t => (t.de, t.sp)) =
    some (0x1234, 0xFFFE) := by decide +kernel
theorem test_R117_pop_AF : after [0xF1] (withBytes 0xC000 [0xFF, 0x12] { base with sp := 0xC000 }) (fun t => (t.a, t.f.toByte)) =
    some (0x12, 0xF0) := by decide +kernel
theorem test_R119_add : after [0x80] { base with a := 0x3A, b := 0xC6 } (fun t => (t.a, t.f.toByte)) = some (0x00, 0xB0) := by
  decide +kernel
theorem test_R120_adc : after [0x8B] { base with a := 0xE1, e := 0x0F, f := ⟨false, false, false, true⟩ }
    (fun t => (t.a, t.f.toByte)) = some (0xF1, 0x20) := by decide +kernel
theorem test_R121_sub : after [0x93] { base with a := 0x3E, e := 0x3E } (fun t => (t.a, t.f.toByte)) = some (0x00, 0xC0) := by
  decide +kernel
theorem test_R122_sbc : after [0x9C] { base with a := 0x3B, h := 0x2A, f := ⟨false, false, false, true⟩ }
    (fun t => (t.a, t.f.toByte)) = some (0x10, 0x40) := by decide +kernel
theorem test_R122_sbc_FF_with_borrow : after [0xDE, 0xFF] { base with f := ⟨false, false, false, true⟩ }
    (fun t => (t.a, t.f.toByte)) = some (0x00, 0xF0) := by decide +kernel
theorem test_R123_and : after [0xA5] { base with a := 0x5A, l := 0x3F } (fun t => (t.a, t.f.toByte)) = some (0x1A, 0x20) := by
  decide +kernel
theorem test_R124_xor : after [0xEE, 0x0F] { base with a := 0xFF } (fun t => (t.a, t.f.toByte)) = some (0xF0, 0x00) := by
  decide +kernel
theorem test_R125_or : after [0xB0] base (fun t => (t.a, t.f.toByte)) = some (0x00, 0x80) := by decide +kernel
theorem test_R126_cp : after [0xFE, 0x40] { base with a := 0x3C } (fun t => (t.a, t.f.toByte)) = some (0x3C, 0x50) := by
  decide +kernel
theorem test_R127_inc_FF : after [0x04] { base with b := 0xFF } (fun t => (t.b, t.f.toByte)) = some (0x00, 0xA0) := by decide +kernel
theorem test_R128_inc_atHL : after [0x34] (withBytes 0xC000 [0x0F] { base with h := 0xC0 }) (fun t => (byteAt t 0xC000, t.f.toByte)) =
    some (0x10, 0x20) := by decide +kernel
theorem test_R129_dec_wraps_keeps_C : after [0x05] { base with f := ⟨false, false, false, true⟩ } (fun t => (t.b, t.f.toByte)) =
    some (0xFF, 0x70) := by decide +kernel
theorem test_R130_dec_atHL : after [0x35] (withBytes 0xC000 [0x01] { base with h := 0xC0 }) (fun t => (byteAt t 0xC000, t.f.toByte)) =
    some (0x00, 0xC0) := by decide +kernel
theorem test_R131_daa : after [0x27] { base with a := 0x7D } (fun t => (t.a, t.f.toByte)) = some (0x83, 0x00) := by decide +kernel
theorem test_R131_daa_9A : after [0x27] { base with a := 0x9A } (fun t => (t.a, t.f.toByte)) = some (0x00, 0x90) := by decide +kernel
theorem test_R132_cpl : after [0x2F] { base with a := 0x35 } (fun t => (t.a, t.f.toByte)) = some (0xCA, 0x60) := by decide +kernel
theorem test_R133_scf : after [0x37] { base with f := ⟨true, true, true, false⟩ } (·.f.toByte) = some 0x90 := by decide +kernel
theorem test_R134_ccf : after [0x3F] { base with f := ⟨false, true, true, true⟩ } (·.f.toByte) = some 0x00 := by decide +kernel
theorem test_R135_add_HL : after [0x09] { base with h := 0x8A, l := 0x23, b := 0x06, c := 0x05 } (fun t => (t.hl, t.f.toByte)) =
    some (0x9028, 0x20) := by decide +kernel
theorem test_R136_inc_DE : after [0x13] { base with e := 0xFF } (fun t => (t.d, t.e, t.f.toByte)) = some (0x01, 0x00, 0x00) := by
  decide +kernel
theorem test_R137_dec_BC : after [0x0B] { base with b := 0x01 } (·.bc) = some 0x00FF := by decide +kernel
theorem test_R138_add_SP_minus_128 : after [0xE8, 0x80] { base with sp := 0 } (fun t => (t.sp, t.f.toByte)) = some (0xFF80, 0x00) := by
  decide +kernel
theorem test_R140_rlca : after [0x07] { base with a := 0x85 } (fun t => (t.a, t.f.toByte)) = some (0x0B, 0x10) := by decide +kernel
theorem test_R141_rrca : after [0x0F] { base with a := 0x3B } (fun t => (t.a, t.f.toByte)) = some (0x9D, 0x10) := by decide +kernel
theorem test_R142_rla_zero_clears_Z : after [0x17] { base with a := 0x80 } (fun t => (t.a, t.f.toByte)) = some (0x00, 0x10) := by
  decide +kernel
theorem test_R143_rra : after [0x1F] { base with a := 0x81 } (fun t => (t.a, t.f.toByte)) = some (0x40, 0x10) := by decide +kernel
theorem test_R145_rlc_B : after [0xCB, 0x00] { base with b := 0x85 } (fun t => (t.b, t.f.toByte)) = some (0x0B, 0x10) := by
  decide +kernel
theorem test_R146_rrc_C : after [0xCB, 0x09] { base with c := 0x01 } (fun t => (t.c, t.f.toByte)) = some (0x80, 0x10) := by
  decide +kernel
theorem test_R147_rl_L : after [0xCB, 0x15] { base with l := 0x80 } (fun t => (t.l, t.f.toByte)) = some (0x00, 0x90) := by
  decide +kernel
theorem test_R148_rr_A : after [0xCB, 0x1F] { base with a := 0x01 } (fun t => (t.a, t.f.toByte)) = some (0x00, 0x90) := by
  decide +kernel
theorem test_R149_sla_D : after [0xCB, 0x22] { base with d := 0x80 } (fun t => (t.d, t.f.toByte)) = some (0x00, 0x90) := by
  decide +kernel
theorem test_R150_sra_A : after [0xCB, 0x2F] { base with a := 0x8A } (fun t => (t.a, t.f.toByte)) = some (0xC5, 0x00) := by
  decide +kernel
theorem test_R151_swap_A : after [0xCB, 0x37] { base with a := 0xF1 } (fun t => (t.a, t.f.toByte)) = some (0x1F, 0x00) := by
  decide +kernel
theorem test_R152_srl_atHL : after [0xCB, 0x3E] (withBytes 0xC000 [0xFF] { base with h := 0xC0 })
    (fun t => (byteAt t 0xC000, t.f.toByte, t.div16)) = some (0x7F, 0x10, 16) := by decide +kernel
theorem test_R153_bit_7_A : after [0xCB, 0x7F] { base with a := 0x80, f := ⟨true, true, false, true⟩ } (·.f.toByte) = some 0x30 := by
  decide +kernel
theorem test_R154_res_0_B : after [0xCB, 0x80] { base with b := 0xFF } (·.b) = some 0xFE := by decide +kernel
theorem test_R155_set_2_IE : after [0xCB, 0xD6] { base with h := 0xFF, l := 0xFF } (·.ie) = some 0x04 := by decide +kernel
theorem test_R157_jp : after [0xC3, 0x50, 0x01] base (·.pc) = some 0x0150 := by decide +kernel
theorem test_R158_jp_NZ_not_taken : report [0xC2, 0x00, 0x03] { base with pc := 0x0200, f := ⟨true, false, false, false⟩ }
    (fun r => (r.after.pc, r.cycles)) = some (0x0203, 12) := by decide +kernel
theorem test_R159_jp_HL : after [0xE9] { base with h := 0x40 } (·.pc) = some 0x4000 := by decide +kernel
theorem test_R160_jr_self : report [0x18, 0xFE] base (fun r => (r.after.pc, r.cycles)) = some (0x0100, 12) := by decide +kernel
theorem test_R161_jr_NZ : after [0x20, 0xFB] { base with pc := 0x0105 } (·.pc) = some 0x0102 := by decide +kernel
theorem test_R162_call : after [0xCD, 0x00, 0x02] base (fun t => (byteAt t 0xFFFD, byteAt t 0xFFFC, t.sp, t.pc)) =
    some (0x01, 0x03, 0xFFFC, 0x0200) := by decide +kernel
theorem test_R163_call_C : report [0xDC, 0x00, 0x30] { base with f := ⟨false, false, false, true⟩ }
    (fun r => (r.after.pc, r.cycles)) = some (0x3000, 24) := by decide +kernel
theorem test_R164_ret : after [0xC9] (withBytes 0xFFFC [0x03, 0x01] { base with sp := 0xFFFC, pc := 0x0200 }) (fun t => (t.pc, t.sp)) =
    some (0x0103, 0xFFFE) := by decide +kernel
theorem test_R165_ret_Z_not_taken : report [0xC8] base (fun r => (r.after.pc, r.after.sp, r.cycles)) = some (0x0101, 0xFFFE, 8) := by
  decide +kernel
theorem test_R166_reti : after [0xD9] (withBytes 0xDFFC [0x50, 0x01] { base with sp := 0xDFFC }) (fun t => (t.pc, t.ime, t.sp)) =
    some (0x0150, true, 0xDFFE) := by decide +kernel
theorem test_R167_rst_28H : after [0xEF] { base with pc := 0x0200 } (fun t => (byteAt t 0xFFFD, byteAt t 0xFFFC, t.pc)) =
    some (0x02, 0x01, 0x0028) := by decide +kernel
theorem test_R169_nop : after [0x00] base (fun t => (t.pc, t.div16)) = some (0x0101, 4) := by decide +kernel
theorem test_R170_halt : after [0x76] base (fun t => (t.pc, t.cpu)) = some (0x0101, .halted) := by decide +kernel
theorem test_R171_stop : after [0x10, 0x00] { base with div16 := 0x1234 } (fun t => (t.pc, t.cpu, t.div16)) =
    some (0x0102, .stopped, 4) := by decide +kernel
theorem test_R172_di_cancels_ei : after [0xF3] { base with ime := true, eiDelay := true } (fun t => (t.ime, t.eiDelay)) =
    some (false, false) := by decide +kernel
theorem test_R173_ei_is_delayed : after [0xFB] base (fun t => (t.ime, t.eiDelay)) = some (false, true) := by decide +kernel
theorem test_R174_undefined : report [0xD3] { base with eiDelay := true } (fun r => (r.kind, r.cycles, r.after.pc, r.after.eiDelay)) =
    some (.decodeError ⟨0x0100, 0xD3⟩, 0, 0x0100, true) := by decide +kernel

/-! ## One step: interrupts, HALT, the timer -/

theorem test_R184_service : report [] { base with ime := true, ie := 0x05, ifl := 0x05 }
    (fun r => (r.kind, r.cycles, r.after.pc, r.after.ifl, r.after.ime)) = some (.serviced .vblank, 20, 0x0040, 0x04, false) := by
  decide +kernel
theorem test_R200_halt_idles : report [] { base with cpu := .halted, ie := 0x00, ifl := 0x1F } (fun r => (r.kind, r.cycles)) =
    some (.halted, 4) := by decide +kernel
theorem test_R202_halt_wakes_without_service : report [0x00] { base with cpu := .halted, ie := 0x01, ifl := 0x01 }
    (fun r => (r.kind, r.after.cpu, r.after.pc, r.after.ifl)) = some (.executed, .running, 0x0101, 0x01) := by decide +kernel
theorem test_R203_stopped : report [0x3C] { base with cpu := .stopped, ime := true, ie := 0x01, ifl := 0x01 }
    (fun r => (r.kind, r.cycles, r.after.a, r.after.div16)) = some (.stopped, 0, 0x00, 0) := by decide +kernel
theorem test_R195_overflow_reads_zero : after [0x00] { base with tac := 0b101, tima := 0xFF, div16 := 0x000D }
    (fun t => (t.tima, t.reloadPending, t.ifl)) = some (0x00, 3, 0x00) := by decide +kernel
theorem test_R192_reload : after [0x00] { base with tac := 0b101, tima := 0x00, tma := 0x42, div16 := 0x0011, reloadPending := 3 }
    (fun t => (t.tima, t.reloadPending, t.ifl)) = some (0x42, 0, 0x04) := by decide +kernel

/-! ## Witnesses: states and operands that meet the hypotheses of the statements -/

/-- `s` with this code at PC. -/
def coded (code : List Byte) (s : State) : State := withBytes s.pc.toNat code s

/-- The next state of an outcome, if it is one. -/
def nextOf {σ φ ρ : Type} (o : Host.Outcome σ φ ρ) : Option σ :=
  match o with
  | .next t => some t
  | _ => none

theorem next_of {σ φ ρ : Type} {o : Host.Outcome σ φ ρ} {t : σ} (h : nextOf o = some t) : o = .next t := by
  cases o <;> simp_all [nextOf]

/-- Two requests pending and enabled, IME set. -/
abbrev pending : State := { base with ime := true, ie := 0x0A, ifl := 0b11010 }

/-- A reload pending, one clock cycle after the overflow. -/
abbrev reloading : State := { base with tac := 0b101, tima := 0x00, tma := 0x42, div16 := 0x0011, reloadPending := 3 }

/-- TIMA about to overflow at the next clock cycle. -/
abbrev overflowing : State := { base with tac := 0b101, tima := 0xFF, tma := 0x42, div16 := 0x000F }

theorem inv_reloading : reloading.Inv :=
  ⟨by decide +kernel, by decide +kernel, by decide +kernel, by decide +kernel, by decide +kernel, by decide +kernel,
    by decide +kernel⟩

theorem inv_with_cells : (withBytes 0xC000 [0x11, 0x22] { base with breakpoints := [0x0150, 0xFFFF] }).Inv :=
  ⟨by decide +kernel, by decide +kernel, by decide +kernel, by decide +kernel, by decide +kernel, by decide +kernel,
    by decide +kernel⟩

theorem witness_DecodeInvertsEncode :
    ([.nop, .call_a16 0xFFFF, .bit_7_A, .ld_A_d8 0xFF, .undefined 0xFD].map Instr.wellFormed) = List.replicate 5 true := by
  decide

theorem witness_EncodeInvertsDecode : decode [0x11, 0xFF, 0x00, 0xCB] = .ok (.ld_DE_d16 0x00FF, [0xCB]) := by decide

theorem witness_LengthFromFirstByte :
    decode [0xFF] = .ok (.rst_38H, []) ∧ decode [0x06, 0x00] = .ok (.ld_B_d8 0x00, []) ∧
    decode [0xCB, 0xFF] = .ok (.set_7_A, []) ∧ decode [0xC3] = .error .tooShort ∧ decode [0xC3, 0x00] = .error .tooShort := by
  decide

theorem witness_PowerOnInvariant :
    ([1, 4, 15].map fun d => legalParams { Params.default with timerReloadDelay := d }) = [true, true, true] ∧
    ([0, 16].map fun d => legalParams { Params.default with timerReloadDelay := d }) = [false, false] := by decide +kernel

theorem witness_StepKeepsInvariant : base.Inv ∧ step base = .next (tick 4 { base with pc := 0x0101 }) :=
  ⟨⟨by decide +kernel, by decide +kernel, by decide +kernel, by decide +kernel, by decide +kernel, by decide +kernel,
    by decide +kernel⟩, next_of (by decide +kernel)⟩

theorem witness_StepKeepsInvariant_reload :
    reloading.Inv ∧ step reloading = .next { reloading with
      pc := 0x0101, div16 := 0x0015, tima := 0x42, reloadPending := 0, ifl := 0b00100 } :=
  ⟨inv_reloading, next_of (by decide +kernel)⟩

theorem witness_HostActionsKeepInvariant : reloading.Inv := inv_reloading

/-- A machine with a hook on the joypad register and on the last I/O address. -/
abbrev hookedCore : State := { base with params := { Params.default with hooked := [0xFF00, 0xFF7F] } }

theorem witness_HookedAccess :
    ([0xFF00, 0xFF7F].map fun a : Word => (decide (0xFF00 ≤ a.toNat ∧ a.toNat ≤ 0xFF7F),
      decide (a ∉ ([0xFF04, 0xFF05, 0xFF06, 0xFF07, 0xFF0F] : List Word)), decide (a ∈ hookedCore.params.hooked))) =
      [(true, true, true), (true, true, true)] := by decide +kernel

theorem witness_ReadAfterWrite_boundaries :
    ([0x8000, 0x9FFF, 0xC000, 0xDFFF, 0xE000, 0xFDFF, 0xFE00, 0xFE9F, 0xFF80, 0xFFFE, 0xFFFF, 0xFF05, 0xFF06].map
      fun x : Word => memRead (memWrite base x 0x5A) x) = List.replicate 13 0x5A := by decide +kernel

theorem witness_ReadAfterWrite_externalRam :
    let s := { base with params := { Params.default with extramPresent := true } }
    s.params.extramPresent = true ∧
    ([0xA000, 0xBFFF].map fun x : Word => memRead (memWrite s x 0x5A) x) = [0x5A, 0x5A] := by decide +kernel

theorem witness_ReadAfterWrite_plainIo :
    ([0xFF00, 0xFF03, 0xFF08, 0xFF0E, 0xFF10, 0xFF7F].map fun x : Word =>
      (decide (x ∉ ([0xFF04, 0xFF05, 0xFF06, 0xFF07, 0xFF0F] : List Word) ∧ x ∉ base.params.hooked),
        memRead (memWrite base x 0x5A) x)) = List.replicate 6 (true, 0x5A) := by decide +kernel

theorem witness_ReadAfterWrite_elsewhere :
    memRead (memWrite base 0xC000 0x5A) 0xE000 = 0x5A ∧ memRead (memWrite base 0xC000 0x5A) 0xC001 = 0x00 ∧
    storeReaches base.params 0xC000 0xE000 = true ∧ storeReaches base.params 0xC000 0xC001 = false := by decide +kernel

theorem witness_EchoOfWorkRam :
    ([0xC000, 0xDFFF].map fun a : Word => memRead (memWrite base a 0x77) a) = [0x77, 0x77] ∧
    ([0xE000, 0xFDFF].map fun a : Word => memRead (memWrite base a 0x77) (a - 0x2000)) = [0x77, 0x77] := by decide +kernel

theorem witness_StepKeepsRomAndHostSide :
    memWrite base 0x0000 0xFF = base ∧ memWrite base 0x7FFF 0xFF = base ∧
    step base = .next (tick 4 { base with pc := 0x0101 }) :=
  ⟨by decide +kernel, by decide +kernel, next_of (by decide +kernel)⟩

theorem witness_StepRunsDecodedInstruction :
    fetchesNow (coded [0xCD, 0x00, 0x02] base) ∧ instrAtPC (.call_a16 0x0200) (coded [0xCD, 0x00, 0x02] base) :=
  ⟨by unfold fetchesNow; decide +kernel, ⟨[], by decide +kernel⟩, by decide +kernel⟩

theorem witness_StepRunsDecodedInstruction_undefined :
    fetchesNow (coded [0xD3] base) ∧ instrAtPC (.undefined 0xD3) (coded [0xD3] base) :=
  ⟨by unfold fetchesNow; decide +kernel, ⟨[0x00, 0x00], by decide +kernel⟩, by decide +kernel⟩

theorem witness_UndefinedOpcodesRaiseDecodeError :
    fetchesNow (coded [0xFD] base) ∧
    decode [memRead (coded [0xFD] base) 0x0100, memRead (coded [0xFD] base) 0x0101, memRead (coded [0xFD] base) 0x0102] =
      .ok (.undefined 0xFD, [0x00, 0x00]) ∧
    memRead (coded [0xFD] base) 0x0100 = 0xFD :=
  ⟨by unfold fetchesNow; decide +kernel, by decide +kernel, by decide +kernel⟩

/-- A machine whose IMPLEMENTED_SET leaves NOP out. -/
abbrev withoutNop : State := { base with params := { Params.default with leftOut := [.primary 0x00] } }

theorem witness_UndefinedOpcodesRaiseDecodeError_leftOut :
    fetchesNow withoutNop ∧ isLeftOut withoutNop.params .nop = true ∧ memRead withoutNop 0x0100 ≠ 0xCB ∧
    decode [memRead withoutNop 0x0100, memRead withoutNop 0x0101, memRead withoutNop 0x0102] = .ok (.nop, [0x00, 0x00]) :=
  ⟨by unfold fetchesNow; decide +kernel, by decide +kernel, by decide +kernel, by decide +kernel⟩

/-- A machine whose IMPLEMENTED_SET leaves the prefix 0xCB out, with SWAP A at PC. -/
abbrev withoutPrefix : State :=
  coded [0xCB, 0x37] { base with params := { Params.default with leftOut := [.primary 0xCB] } }

theorem witness_UndefinedOpcodesRaiseDecodeError_prefix :
    fetchesNow withoutPrefix ∧ .primary 0xCB ∈ withoutPrefix.params.leftOut ∧ memRead withoutPrefix withoutPrefix.pc = 0xCB :=
  ⟨by unfold fetchesNow; decide +kernel, by decide +kernel, by decide +kernel⟩

theorem test_R76_prefix_left_out : report [0xCB, 0x37] { base with
    params := { Params.default with leftOut := [.primary 0xCB] } } (fun r => (r.kind, r.cycles, r.after.pc)) =
      some (.decodeError ⟨0x0100, 0xCB⟩, 0, 0x0100) := by decide +kernel

theorem witness_FaultLatchIsSticky :
    engineStep (coded [0xD3] base) =
      .next ⟨.decodeError ⟨0x0100, 0xD3⟩, 0, { coded [0xD3] base with fault := some ⟨0x0100, 0xD3⟩ }⟩ ∧
    step { base with fault := some ⟨0x0100, 0xD3⟩ } = .fault (.latchedDecodeError 0x0100 0xD3) :=
  ⟨next_of (by decide +kernel), rfl⟩

theorem witness_StoppedCoreWaitsForStopWake :
    { base with cpu := .stopped }.fault = none ∧ { base with cpu := .stopped }.cpu = .stopped ∧ base.cpu ≠ .stopped ∧
    base.cancelFlag = false ∧ base.pc ∉ base.breakpoints ∧
    HostAction.deviceActs ≠ .stopWake ∧ HostAction.deviceActs ≠ .reset := by decide +kernel

theorem witness_HaltIdlesOrWakes_idle :
    let s := { base with cpu := .halted, ie := 0xE0, ifl := 0b11111 }
    s.fault = none ∧ s.cpu = .halted ∧ s.ie.extractLsb' 0 5 &&& s.ifl = 0 := by decide +kernel

theorem witness_HaltIdlesOrWakes_service :
    let s := { pending with cpu := .halted }
    s.fault = none ∧ s.cpu = .halted ∧ s.ie.extractLsb' 0 5 &&& s.ifl ≠ 0 ∧ s.ime = true := by decide +kernel

theorem witness_HaltIdlesOrWakes_no_service :
    let s := coded [0xD3] { base with cpu := .halted, ie := 0x10, ifl := 0b10000 }
    s.fault = none ∧ s.cpu = .halted ∧ s.ie.extractLsb' 0 5 &&& s.ifl ≠ 0 ∧ s.ime = false ∧ instrAtPC (.undefined 0xD3) s :=
  ⟨by decide +kernel, by decide +kernel, by decide +kernel, by decide +kernel, ⟨[0x00, 0x00], by decide +kernel⟩,
    by decide +kernel⟩

theorem witness_ServiceInterrupt :
    pending.fault = none ∧ pending.cpu ≠ .stopped ∧ pending.ime = true ∧ pendingAndEnabled pending = some .lcdStatus := by
  decide +kernel

theorem witness_HighestPriorityPendingSource :
    pendingAndEnabled { base with ie := 0x11, ifl := 0b10001 } = some .vblank ∧
    pendingAndEnabled { base with ie := 0xF0, ifl := 0b11111 } = some .joypad ∧
    pendingAndEnabled { base with ie := 0x0F, ifl := 0b10000 } = none := by decide +kernel

theorem witness_ServiceOnlyWhenEnabled :
    engineStep pending = .next ⟨.serviced .lcdStatus, 20, tick 20 { withBytes 0xFFFC [0x00, 0x01] pending with
      sp := 0xFFFC, pc := 0x0048, ime := false, ifl := 0b11000 }⟩ := next_of (by decide +kernel)

theorem witness_EiDelaysOneInstruction :
    let s := coded [0xFB, 0x00] { pending with ime := false }
    fetchesNow s ∧ s.ime = false ∧ s.eiDelay = false ∧ instrAtPC .ei s :=
  ⟨by unfold fetchesNow; decide +kernel, by decide +kernel, by decide +kernel, ⟨[0x00, 0x00], by decide +kernel⟩,
    by decide +kernel⟩

theorem witness_EiDelaysOneInstruction_next_step :
    report [0x00] (tick 4 { pending with ime := false, eiDelay := true }) (fun r => (r.kind, r.after.ime, pendingMask r.after,
      r.after.cpu)) = some (.executed, true, 0b01010, .running) := by decide +kernel

theorem witness_StepClockCycles :
    report [0xCD, 0x00, 0x02] base (fun r => (r.kind, r.cycles)) = some (.executed, 24) ∧
    report [0x00] base (fun r => (r.kind, r.cycles)) = some (.executed, 4) := by decide +kernel

theorem nop_writes_no_flag : ¬writesFlags .nop := by
  rintro (⟨op, o, h⟩ | ⟨op, v, h⟩ | ⟨o, h⟩ | ⟨o, h⟩ | h | h | h | h | ⟨op, o, h⟩ | ⟨b, o, h⟩ | h | h | h | h | ⟨p, h⟩ | ⟨e, h⟩ |
    ⟨e, h⟩ | h)
  all_goals first
    | (cases h)
    | (rcases o with r | _ <;> (try cases r) <;> (try cases op) <;> (try fin_cases b) <;> cases h)
    | (cases op <;> cases h)
    | (cases p <;> cases h)

theorem witness_FlagsWrittenOnlyByListed : exec .nop base = .next base ∧ ¬writesFlags .nop :=
  ⟨rfl, nop_writes_no_flag⟩

theorem nop_is_no_transfer : ¬isTransfer .nop := by
  rintro (⟨w, h⟩ | ⟨cc, w, h⟩ | h | ⟨e, h⟩ | ⟨cc, e, h⟩ | ⟨w, h⟩ | ⟨cc, w, h⟩ | h | ⟨cc, h⟩ | h | ⟨t, h⟩)
  all_goals first
    | (cases h)
    | (cases cc <;> cases h)
    | (fin_cases t <;> cases h)

theorem witness_OnlyTransfersMovePC : exec .nop base = .next base ∧ ¬isTransfer .nop :=
  ⟨rfl, nop_is_no_transfer⟩

theorem witness_ControlStateWriters :
    exec .reti base = .next { base with pc := 0x0000, sp := 0x0000, ime := true } ∧
    exec .di { base with ime := true, eiDelay := true } = .next base ∧
    exec .ei base = .next { base with eiDelay := true } ∧ exec .halt base = .next { base with cpu := .halted } ∧
    exec (.stop 0x00) base = .next { base with cpu := .stopped } ∧
    exec (.undefined 0xD3) base = .next { base with fault := some ⟨0x0100, 0xD3⟩ } :=
  ⟨next_of (by decide +kernel), rfl, rfl, rfl, rfl, rfl⟩

theorem witness_TimaPeriod_running : base.tima ≠ 0xFF ∧ base.reloadPending = 0 ∧
    ([0b100#3, 0b101, 0b110, 0b111].map fun tac => { base with tac := tac }.tac.getLsbD 2) = List.replicate 4 true := by
  decide +kernel

theorem witness_TimaPeriod_stopped :
    ([0b000#3, 0b011].map fun tac => { base with tac := tac }.tac.getLsbD 2) = [false, false] ∧ base.reloadPending = 0 := by
  decide +kernel

theorem witness_TimaOverflowReloads :
    legalParams overflowing.params = true ∧ overflowing.reloadPending = 0 ∧ overflowing.tac.getLsbD 2 = true ∧
    overflowing.tima = 0xFF ∧ overflowing.tac.extractLsb' 0 2 = 1 ∧ overflowing.div16.getLsbD 3 = true ∧
    (overflowing.div16 + 1).getLsbD 3 = false := by decide +kernel

theorem witness_TimaOverflowReloads_slowest :
    let s := { overflowing with tac := 0b100, div16 := 0xFFFF }
    s.reloadPending = 0 ∧ s.tac.getLsbD 2 = true ∧ s.tac.extractLsb' 0 2 = 0 ∧ s.div16.getLsbD 9 = true ∧
    (s.div16 + 1).getLsbD 9 = false := by decide +kernel

theorem witness_TimerRegisterWrites : reloading.Inv ∧ reloading.reloadPending ≠ 0 ∧ base.reloadPending = 0 :=
  ⟨inv_reloading, by decide +kernel, by decide +kernel⟩

theorem witness_RequestInterruptSetsOneBit :
    { base with ifl := 0b10000 }.ifl.getLsbD IntSource.joypad.bit = true ∧
    (requestInterrupt .vblank base).ifl = 0b00001 := by decide +kernel

theorem witness_BreakpointSetOperations :
    [0x0150#16, 0xFFFF].Nodup ∧ (hostAct (.addBreakpoint 0x1FFFF) { base with breakpoints := [0xFFFF] }).breakpoints = [0xFFFF] ∧
    (hostAct (.removeBreakpoint 0) { base with breakpoints := [0x0150, 0xFFFF] }).breakpoints = [0xFFFF] ∧
    (hostAct (.removeBreakpoint 2) { base with breakpoints := [0x0150, 0xFFFF] }).breakpoints = [0x0150, 0xFFFF] := by
  decide +kernel

theorem witness_RunToBreakpointExits_hit :
    runToBreakpoint [[.addBreakpoint 0x0101], []] base =
      .breakpointHit 0x0101 (tick 4 { base with pc := 0x0101, breakpoints := [0x0101] }) := by decide +kernel

theorem witness_RunToBreakpointExits_decodeError :
    runToBreakpoint [[]] (coded [0xD3] base) =
      .decodeError ⟨0x0100, 0xD3⟩ { coded [0xD3] base with fault := some ⟨0x0100, 0xD3⟩ } := by decide +kernel

theorem witness_RunToBreakpointExits_cancelled :
    runToBreakpoint [[], [.setCancel true]] base = .cancelled (tick 4 { base with pc := 0x0101, cancelFlag := true }) ∧
    { base with cancelFlag := true }.cancelFlag = true := by decide +kernel

theorem witness_RunToBreakpointExits_fault :
    runToBreakpoint [[]] { base with fault := some ⟨0x0100, 0xD3⟩ } = .fault (.latchedDecodeError 0x0100 0xD3) := rfl

theorem witness_RunToBreakpointExits_goes_on :
    runToBreakpoint [[.addBreakpoint 0x0102], []] base =
      .breakpointHit 0x0102 (tick 8 { base with pc := 0x0102, breakpoints := [0x0102] }) := by decide +kernel

theorem witness_LoadRomInstallsImage :
    memRead (hostAct (.loadROM [0x11, 0x22]) base) 0x0001 = 0x22 ∧ memRead (hostAct (.loadROM [0x11, 0x22]) base) 0x0002 = 0x00 ∧
    (0x7FFF#16).toNat ≤ 0x7FFF ∧ 0x7FFF < (0x8000#16).toNat := by decide +kernel

theorem witness_LoadAccumulator_clauses :
    ((.ld_A_atA16 0xFFFF : Instr) = .ld_A_atA16 0xFFFF ∧ (0xFFFF#16) = 0xFFFF) ∧
    ({ base with c := 0xFF }.c, (0xFF#8 ++ { base with c := 0xFF }.c : Word)) = (0xFF, 0xFFFF) := by decide +kernel

theorem witness_AluArithmetic : aluForm .add (Form.alu .add .atHL) (memRead base base.hl) base ∧
    aluForm .sbc (Form.aluImm .sbc 0xFF) 0xFF { base with f := ⟨false, false, false, true⟩ } ∧
    { base with f := ⟨false, false, false, true⟩ }.f.c.toNat = 1 ∧ base.f.c.toNat = 0 :=
  ⟨.inl ⟨.atHL, rfl, rfl⟩, .inr rfl, by decide +kernel, by decide +kernel⟩

theorem witness_AluLogic : aluForm .xor (Form.alu .xor (.reg .a)) base.a base ∧ (AluOp.xor = .and ∨ AluOp.xor = .xor ∨ AluOp.xor = .or) :=
  ⟨.inl ⟨.reg .a, rfl, rfl⟩, by decide⟩

theorem witness_AccumulatorAndFlagOps :
    base.f.n = false ∧ { base with f := ⟨false, true, false, true⟩ }.f.n = true := by decide +kernel

theorem witness_DaaCorrectsDecimalArithmetic :
    ({ base with a := 0x99, b := 0x01 }.a = bcd 99) ∧ (0x01 : Byte) = bcd 1 ∧
    aluForm .add .add_A_B 0x01 { base with a := 0x99, b := 0x01 } ∧ aluForm .sub .sub_B 0x01 { base with a := 0x99, b := 0x01 } :=
  ⟨by decide +kernel, by decide +kernel, .inl ⟨.reg .b, rfl, rfl⟩, .inl ⟨.reg .b, rfl, rfl⟩⟩

theorem witness_Jumps_clauses :
    (Form.jrCond .nz 0x80 = .jr_NZ_r8 0x80) ∧ (Form.jpCond .c 0xFFFF = .jp_C_a16 0xFFFF) ∧
    (0xFFFF#16 + (0x80#8).signExtend 16 = 0xFF7F) := by decide +kernel

theorem witness_Calls : base.cond .nz = true ∧ base.cond .z = false ∧ Form.rst 7 = .rst_38H := by decide +kernel

theorem witness_Returns : base.cond .nc = true ∧ base.cond .c = false := by decide +kernel

theorem witness_StackRoundTrip :
    ([0xC002, 0xE000, 0xFF82, 0xFFFF].map fun sp : Word =>
      decide ((0xC002 ≤ sp.toNat ∧ sp.toNat ≤ 0xE000) ∨ (0xFF82 ≤ sp.toNat ∧ sp.toNat ≤ 0xFFFF))) = List.replicate 4 true ∧
    exec (.call_a16 0x1234) base = .next { withBytes 0xFFFC [0x00, 0x01] base with sp := 0xFFFC, pc := 0x1234 } ∧
    exec (Form.push .bc) { base with b := 0x12 } = .next { withBytes 0xFFFD [0x12] { base with b := 0x12 } with sp := 0xFFFC } :=
  ⟨by decide +kernel, next_of (by decide +kernel), next_of (by decide +kernel)⟩

theorem witness_SystemInstructions : (0xFF03#16) ≠ 0xFF04 ∧ exec (.stop 0xFF) { base with div16 := 0xFFFF } = .next { base with
    cpu := .stopped } := ⟨by decide +kernel, next_of (by decide +kernel)⟩

end Sys2Proof.Tests
end

/-! SUPPORT. Which bytes decode to the undefined instruction (spec/30_encoding.md R74 to R76), and the step that raises
DecodeError (spec/60_exceptions.md R176): both its causes, an undefined byte and an opcode left out of IMPLEMENTED_SET, answer
`missingEntry`. -/

namespace Sys2Proof

/-! ## No family of the opcode maps names the undefined instruction -/

@[simp] theorem ldPairImm_ne_undefined (p : Pair) (v : Word) (x : Byte) : Form.ldPairImm p v ≠ .undefined x := by
  cases p <;> nofun

@[simp] theorem addHL_ne_undefined (p : Pair) (x : Byte) : Form.addHL p ≠ .undefined x := by
  cases p <;> nofun

@[simp] theorem incPair_ne_undefined (p : Pair) (x : Byte) : Form.incPair p ≠ .undefined x := by
  cases p <;> nofun

@[simp] theorem decPair_ne_undefined (p : Pair) (x : Byte) : Form.decPair p ≠ .undefined x := by
  cases p <;> nofun

@[simp] theorem inc_ne_undefined (o : Operand8) (x : Byte) : Form.inc o ≠ .undefined x := by
  unfold Form.inc
  split <;> nofun

@[simp] theorem dec_ne_undefined (o : Operand8) (x : Byte) : Form.dec o ≠ .undefined x := by
  unfold Form.dec
  split <;> nofun

@[simp] theorem ldRegImm_ne_undefined (r : Reg) (v x : Byte) : Form.ldRegImm r v ≠ .undefined x := by
  cases r <;> nofun

@[simp] theorem ldRegReg_ne_undefined (dst src : Reg) (x : Byte) : Form.ldRegReg dst src ≠ .undefined x := by
  unfold Form.ldRegReg
  split <;> nofun

@[simp] theorem ldRegAtHL_ne_undefined (dst : Reg) (x : Byte) : Form.ldRegAtHL dst ≠ .undefined x := by
  cases dst <;> nofun

@[simp] theorem ldAtHLReg_ne_undefined (src : Reg) (x : Byte) : Form.ldAtHLReg src ≠ .undefined x := by
  cases src <;> nofun

@[simp] theorem alu_ne_undefined (op : AluOp) (o : Operand8) (x : Byte) : Form.alu op o ≠ .undefined x := by
  unfold Form.alu
  split <;> nofun

@[simp] theorem aluImm_ne_undefined (op : AluOp) (v x : Byte) : Form.aluImm op v ≠ .undefined x := by
  cases op <;> nofun

@[simp] theorem jrCond_ne_undefined (cc : Cond) (e x : Byte) : Form.jrCond cc e ≠ .undefined x := by
  cases cc <;> nofun

@[simp] theorem jpCond_ne_undefined (cc : Cond) (w : Word) (x : Byte) : Form.jpCond cc w ≠ .undefined x := by
  cases cc <;> nofun

@[simp] theorem callCond_ne_undefined (cc : Cond) (w : Word) (x : Byte) : Form.callCond cc w ≠ .undefined x := by
  cases cc <;> nofun

@[simp] theorem retCond_ne_undefined (cc : Cond) (x : Byte) : Form.retCond cc ≠ .undefined x := by
  cases cc <;> nofun

@[simp] theorem push_ne_undefined (p : StackPair) (x : Byte) : Form.push p ≠ .undefined x := by
  cases p <;> nofun

@[simp] theorem pop_ne_undefined (p : StackPair) (x : Byte) : Form.pop p ≠ .undefined x := by
  cases p <;> nofun

@[simp] theorem rst_ne_undefined (t : Fin 8) (x : Byte) : Form.rst t ≠ .undefined x := by
  unfold Form.rst
  split <;> nofun

/-! ## The decoder -/

/-- What the extended map names is encoded as 0xCB and the byte it was read from (R75). -/
theorem encode_decodeExtended (xop : Byte) : encode (decodeExtended xop) = [0xCB, xop] := by
  revert xop
  decide +kernel

theorem opcode_decodeExtended (xop : Byte) : (decodeExtended xop).opcode = .extended xop := by
  simp [Instr.opcode, encode_decodeExtended]

theorem encode_undefined (x : Byte) : encode (.undefined x) = [x] := rfl

theorem decodeExtended_ne_undefined (xop x : Byte) : decodeExtended xop ≠ .undefined x := by
  intro h
  have hx : [x] = [0xCB, xop] := by rw [← encode_undefined, ← h, encode_decodeExtended]
  simp at hx

theorem decodeBlock0_ne_undefined (op b1 b2 x : Byte) : decodeBlock0 op b1 b2 ≠ .undefined x := by
  fun_cases decodeBlock0 op b1 b2 <;> simp

theorem decodeBlock1_ne_undefined (op x : Byte) : decodeBlock1 op ≠ .undefined x := by
  fun_cases decodeBlock1 op <;> simp

/-- The cells of the block x = 3 marked `—` in the map, by their fields (R74); 0xCB is one of them. -/
def undefinedCell (op : Byte) : Bool :=
  (fieldZ op == 3 && !([0, 6, 7].contains (fieldY op))) || (fieldZ op == 4 && !([0, 1, 2, 3].contains (fieldY op))) ||
    (fieldZ op == 5 && fieldQ op != 0 && fieldP op != 0)

theorem decodeBlock3_eq_undefined_iff (op b1 b2 x : Byte) :
    decodeBlock3 op b1 b2 = .undefined x ↔ undefinedCell op = true ∧ op = x := by
  unfold undefinedCell
  fun_cases decodeBlock3 op b1 b2 <;> simp_all

theorem decodePrimary_eq_undefined_iff (op b1 b2 x : Byte) :
    decodePrimary op b1 b2 = .undefined x ↔ fieldX op = 3 ∧ undefinedCell op = true ∧ op = x := by
  have hx : fieldX op < 4 := by
    have := op.isLt
    unfold fieldX
    omega
  fun_cases decodePrimary op b1 b2 with
  | case1 h0 => simp [decodeBlock0_ne_undefined, h0]
  | case2 h1 => simp [decodeBlock1_ne_undefined, h1]
  | case3 h2 => simp [h2]
  | case4 h0 h1 h2 =>
    simp only [imp_false] at h0 h1 h2
    have h3 : fieldX op = 3 := by omega
    simp [decodeBlock3_eq_undefined_iff, h3]

/-- The undefined cells of the map, 0xCB apart, are the eleven bytes of R76. -/
theorem mem_undefinedOpcodes_iff (op : Byte) :
    op ∈ undefinedOpcodes ↔ op ≠ 0xCB ∧ fieldX op = 3 ∧ undefinedCell op = true := by
  revert op
  decide +kernel

/-- R76: exactly the eleven bytes decode to the undefined instruction, and its operand is the byte itself. -/
theorem decodeBytes_eq_undefined_iff (op b1 b2 x : Byte) :
    decodeBytes op b1 b2 = .undefined x ↔ op ∈ undefinedOpcodes ∧ op = x := by
  rw [mem_undefinedOpcodes_iff]
  unfold decodeBytes
  split
  · rename_i hcb
    simp [decodeExtended_ne_undefined, hcb]
  · rename_i hcb
    rw [decodePrimary_eq_undefined_iff]
    simp only [ne_eq, hcb, not_false_eq_true, true_and, and_assoc]

/-- What the decoder answers is `decodeBytes` of the string's first three bytes (R84). -/
theorem decodeBytes_of_decode {op b1 b2 : Byte} {i : Instr} {rest : List Byte} (h : decode [op, b1, b2] = .ok (i, rest)) :
    decodeBytes op b1 b2 = i := by
  unfold decode at h
  dsimp only at h
  split_ifs at h
  cases h
  rfl

end Sys2Proof

namespace Sys2Proof.Machine

/-! ## The step that raises DecodeError -/

/-- The report of R176 as a record: only the fault latch is written, and no time is spent. -/
theorem missingEntry_eq (s : State) :
    missingEntry s =
      .next ⟨.decodeError ⟨s.pc, memRead s s.pc⟩, 0, { s with fault := some ⟨s.pc, memRead s s.pc⟩ }⟩ := rfl

theorem engineStep_eq_fetchAndRun {s : State} (h : fetchesNow s) : engineStep s = fetchAndRun s := by
  obtain ⟨hfault, hcpu, hint⟩ := h
  exact engineStep_of_fetches hfault hcpu hint

theorem fetchInstr_eq_undefined_iff (s : State) (x : Byte) :
    fetchInstr s = .undefined x ↔ memRead s s.pc ∈ undefinedOpcodes ∧ memRead s s.pc = x :=
  decodeBytes_eq_undefined_iff ..

/-- Behind 0xCB stands an extended opcode (R75). -/
theorem opcode_fetchInstr_of_cb {s : State} (h : memRead s s.pc = 0xCB) :
    (fetchInstr s).opcode = .extended (memRead s (s.pc + 1)) := by
  simp [fetchInstr, decodeBytes, h, opcode_decodeExtended]

/-- An undefined opcode's run is the step of an opcode without a table entry (R76). -/
theorem runInstr_undefined (s : State) : runInstr (.undefined (memRead s s.pc)) s = missingEntry s := rfl

theorem engineStep_of_leftOut {s : State} (hs : fetchesNow s) (h : isLeftOut s.params (fetchInstr s) = true) :
    engineStep s = missingEntry s := by
  rw [engineStep_eq_fetchAndRun hs, fetchAndRun, if_pos h]

theorem engineStep_of_undefined {s : State} (hs : fetchesNow s) (h : memRead s s.pc ∈ undefinedOpcodes) :
    engineStep s = missingEntry s := by
  have hi : fetchInstr s = .undefined (memRead s s.pc) := (fetchInstr_eq_undefined_iff s _).2 ⟨h, rfl⟩
  rw [engineStep_eq_fetchAndRun hs, fetchAndRun, hi, runInstr_undefined, ite_self]

theorem engineStep_of_cb_leftOut {s : State} (hs : fetchesNow s) (hp : .primary 0xCB ∈ s.params.leftOut)
    (h : memRead s s.pc = 0xCB) : engineStep s = missingEntry s :=
  engineStep_of_leftOut hs (isLeftOut_of_prefix (opcode_fetchInstr_of_cb h) hp)

/-- Settles O16: an undefined byte and a left-out opcode both end in `missingEntry`, whose record names the byte at PC; the
bytes are read off the cells of the opcode map. -/
theorem undefinedOpcodesRaiseDecodeError : Obligations.UndefinedOpcodesRaiseDecodeError := by
  unfold Obligations.UndefinedOpcodesRaiseDecodeError
  refine ⟨fun op b1 b2 => ?bytes, fun s i rest hs hdec => ?fetched, fun s hs hp hcb => ?cbLeftOut, Laws.exec_undefined⟩
  case bytes =>
    simp only [decodeBytes_eq_undefined_iff, exists_and_left, exists_eq', and_true]
    rfl
  case fetched =>
    have hi : fetchInstr s = i := decodeBytes_of_decode hdec
    rw [← hi, ← missingEntry_eq]
    refine ⟨?_, fun hl => ⟨memRead s s.pc, engineStep_of_leftOut hs hl⟩⟩
    rintro (hu | ⟨hl, -⟩)
    · exact engineStep_of_undefined hs hu
    · exact engineStep_of_leftOut hs hl
  case cbLeftOut =>
    rw [engineStep_of_cb_leftOut hs hp hcb, missingEntry_eq, hcb]

end Sys2Proof.Machine

/-! SUPPORT. What the body of an instruction can do (spec/30_encoding.md R87), said once for `exec`: `effect_of_exec`. Which
instructions write flags (spec/10_state.md R20) and control state (R23 to R26) is read off it. -/

namespace Sys2Proof.Machine

/-! ## The effects -/

/-- `u` follows from `s` by bus writes, one after another. -/
inductive BusWrites (s : State) : State → Prop where
  | none : BusWrites s s
  | write {u : State} (x : Word) (v : Byte) (h : BusWrites s u) : BusWrites s (memWrite u x v)

/-- `t` differs from `u` in the byte registers, F, SP and PC only. -/
def onlyRegistersChanged (u t : State) : Prop :=
  t = { u with
    a := t.a, b := t.b, c := t.c, d := t.d, e := t.e, h := t.h, l := t.l, f := t.f, sp := t.sp, pc := t.pc }

/-- What the body of instruction `i` can make of `s` (R87): bus writes and then a change of registers, in which F changes
only for the flag writers of R20 and PC only for the control transfers; or one of the six changes of control state. -/
inductive BodyEffect (i : Instr) (s : State) : State → Prop where
  | registers {u t : State} (hu : BusWrites s u) (ht : onlyRegistersChanged u t) (hf : writesFlags i ∨ t.f = u.f)
      (hp : isTransfer i ∨ t.pc = u.pc) : BodyEffect i s t
  | reti (hi : i = .reti) : BodyEffect i s (returnFromInterrupt s)
  | di (hi : i = .di) : BodyEffect i s { s with ime := false, eiDelay := false }
  | ei (hi : i = .ei) : BodyEffect i s { s with eiDelay := true }
  | halt (hi : i = .halt) : BodyEffect i s { s with cpu := .halted }
  | stop (pad : Byte) (hi : i = .stop pad) : BodyEffect i s { s with cpu := .stopped, div16 := 0 }
  | undefined (op : Byte) (hi : i = .undefined op) : BodyEffect i s (raiseDecodeError op s)

namespace BodyEffect

variable {i : Instr} {s t : State}

/-- An instruction that stores nothing. -/
theorem noStore (ht : onlyRegistersChanged s t) (hf : writesFlags i ∨ t.f = s.f) (hp : isTransfer i ∨ t.pc = s.pc) :
    BodyEffect i s t :=
  .registers .none ht hf hp

/-- An instruction whose one store is to `x`. -/
theorem oneStore (x : Word) (v : Byte) (ht : onlyRegistersChanged (memWrite s x v) t)
    (hf : t.f = (memWrite s x v).f) (hp : t.pc = (memWrite s x v).pc) : BodyEffect i s t :=
  .registers (.write x v .none) ht (.inr hf) (.inr hp)

/-- An instruction whose result goes to R8[code]. -/
theorem operand (o : Operand8) (v : Byte) (ht : t = { writeOperand o v s with f := t.f }) (hf : writesFlags i ∨ t.f = s.f) :
    BodyEffect i s t := by
  have hp : t.pc = s.pc := by rw [ht]; exact writeOperand_pc o v s
  cases o with
  | reg r => exact .noStore (by rw [ht]; cases r <;> rfl) hf (.inr hp)
  | atHL =>
    refine .registers (.write s.hl v .none) (by rw [ht]; rfl) ?_ (.inr (by simp [hp]))
    simpa using hf

/-- A push, after which PC may be another. -/
theorem push (v : Word) (ht : onlyRegistersChanged (push16 v s) t) (hf : t.f = (push16 v s).f)
    (hp : isTransfer i ∨ t.pc = (push16 v s).pc) : BodyEffect i s t := by
  rw [push16_eq] at ht hf hp
  exact .registers (.write _ _ (.write _ _ .none)) (by rw [ht]; rfl) (.inr hf) hp

/-- A conditional control transfer: nothing happens where its condition fails. -/
theorem conditional (taken : Bool) (h : BodyEffect i s t) : BodyEffect i s (if taken then t else s) := by
  cases taken
  · exact .noStore rfl (.inr rfl) (.inr rfl)
  · exact h

end BodyEffect

/-- Every instruction completes, and its body has one of the effects. -/
theorem exec_effect (i : Instr) (s : State) : ∃ t, exec i s = .next t ∧ BodyEffect i s t := by
  cases Laws.Instr.form i with
  -- Loads into registers, and 16-bit arithmetic without flags
  | ldPairImm p v => exact ⟨_, Laws.exec_ldPairImm p v s, .noStore (by cases p <;> rfl) (.inr (by simp)) (.inr (by simp))⟩
  | incPair p => exact ⟨_, Laws.exec_incPair p s, .noStore (by cases p <;> rfl) (.inr (by simp)) (.inr (by simp))⟩
  | decPair p => exact ⟨_, Laws.exec_decPair p s, .noStore (by cases p <;> rfl) (.inr (by simp)) (.inr (by simp))⟩
  | ldRegImm dst v => exact ⟨_, Laws.exec_ldRegImm dst v s, .operand (.reg dst) v rfl (.inr (by simp))⟩
  | ldRegReg dst src => exact ⟨_, Laws.exec_ldRegReg dst src s, .operand (.reg dst) _ rfl (.inr (by simp))⟩
  | ldRegAtHL dst => exact ⟨_, Laws.exec_ldRegAtHL dst s, .operand (.reg dst) _ rfl (.inr (by simp))⟩
  | ld_A_atBC | ld_A_atDE | ld_A_atHLI | ld_A_atHLD | ldh_A_atA8 | ld_A_atC | ld_A_atA16 | ld_SP_HL | nop =>
    exact ⟨_, rfl, .noStore rfl (.inr rfl) (.inr rfl)⟩
  -- Stores
  | ldAtHLReg src => exact ⟨_, Laws.exec_ldAtHLReg src s, .oneStore _ _ rfl rfl rfl⟩
  | ld_atBC_A | ld_atDE_A | ld_atHLI_A | ld_atHLD_A | ld_atHL_d8 | ldh_atA8_A | ld_atC_A | ld_atA16_A =>
    exact ⟨_, rfl, .oneStore _ _ rfl rfl rfl⟩
  | ld_atA16_SP a16 => exact ⟨_, rfl, .registers (.write _ _ (.write _ _ .none)) rfl (.inr rfl) (.inr rfl)⟩
  | push p => exact ⟨_, Laws.exec_push p s, .push _ rfl rfl (.inr rfl)⟩
  -- Flag writers
  | pop p =>
    have hf : writesFlags (Form.pop p) ∨ ((dropTwo s).setStackPair p (popValue s)).f = s.f := by
      cases p with
      | af => exact .inl (by simp [writesFlags, Form.pop])
      | bc | de | hl => exact .inr rfl
    exact ⟨_, Laws.exec_pop p s, .noStore (by cases p <;> rfl) hf (.inr (by simp))⟩
  | alu op o => exact ⟨_, Laws.exec_alu op o s, .noStore rfl (.inl (by simp [writesFlags])) (.inr rfl)⟩
  | aluImm op v => exact ⟨_, Laws.exec_aluImm op v s, .noStore rfl (.inl (by simp [writesFlags])) (.inr rfl)⟩
  | inc o => exact ⟨_, Laws.exec_inc o s, .operand o _ rfl (.inl (by simp [writesFlags]))⟩
  | dec o => exact ⟨_, Laws.exec_dec o s, .operand o _ rfl (.inl (by simp [writesFlags]))⟩
  | shift op o => exact ⟨_, Laws.exec_shift op o s, .operand o _ rfl (.inl (by simp [writesFlags]))⟩
  | bit b o => exact ⟨_, Laws.exec_bit b o s, .noStore rfl (.inl (by simp [writesFlags])) (.inr rfl)⟩
  | addHL p => exact ⟨_, Laws.exec_addHL p s, .noStore rfl (.inl (by simp [writesFlags])) (.inr rfl)⟩
  | rlca | rrca | rla | rra | daa | cpl | scf | ccf | add_SP_r8 | ld_HL_SPr8 =>
    exact ⟨_, rfl, .noStore rfl (.inl (by simp [writesFlags])) (.inr rfl)⟩
  -- Single bits
  | res b o => exact ⟨_, Laws.exec_res b o s, .operand o _ rfl (.inr (by simp))⟩
  | set b o => exact ⟨_, Laws.exec_set b o s, .operand o _ rfl (.inr (by simp))⟩
  -- Control transfers
  | jp_a16 | jp_HL | jr_r8 | ret => exact ⟨_, rfl, .noStore rfl (.inr rfl) (.inl (by simp [isTransfer]))⟩
  | call_a16 a16 => exact ⟨_, rfl, .push _ rfl rfl (.inl (by simp [isTransfer]))⟩
  | rst t => exact ⟨_, Laws.exec_rst t s, .push _ rfl rfl (.inl (by simp [isTransfer]))⟩
  | jpCond cc a16 =>
    exact ⟨_, Laws.exec_jpCond cc a16 s, .conditional _ (.noStore rfl (.inr rfl) (.inl (by simp [isTransfer])))⟩
  | jrCond cc r8 =>
    exact ⟨_, Laws.exec_jrCond cc r8 s, .conditional _ (.noStore rfl (.inr rfl) (.inl (by simp [isTransfer])))⟩
  | callCond cc a16 =>
    exact ⟨_, Laws.exec_callCond cc a16 s, .conditional _ (.push _ rfl rfl (.inl (by simp [isTransfer])))⟩
  | retCond cc =>
    exact ⟨_, Laws.exec_retCond cc s, .conditional _ (.noStore rfl (.inr rfl) (.inl (by simp [isTransfer])))⟩
  -- Control state
  | reti => exact ⟨_, rfl, .reti rfl⟩
  | di => exact ⟨_, rfl, .di rfl⟩
  | ei => exact ⟨_, rfl, .ei rfl⟩
  | halt => exact ⟨_, rfl, .halt rfl⟩
  | stop pad => exact ⟨_, rfl, .stop pad rfl⟩
  | undefined op => exact ⟨_, rfl, .undefined op rfl⟩

/-! ## What a body leaves alone -/

namespace BusWrites

variable {s u : State}

theorem f_eq (h : BusWrites s u) : u.f = s.f := by
  induction h with
  | none => rfl
  | write x v _ ih => rw [memWrite_f, ih]

theorem sameControl (h : BusWrites s u) : sameControl s u := by
  induction h with
  | none => exact ⟨rfl, rfl, rfl, rfl⟩
  | write x v _ ih => simpa [Machine.sameControl] using ih

end BusWrites

theorem onlyRegistersChanged.sameControl {s t : State} (h : onlyRegistersChanged s t) : sameControl s t := by
  unfold onlyRegistersChanged at h
  rw [h]
  exact ⟨rfl, rfl, rfl, rfl⟩

theorem sameControl.trans {s u t : State} (h₁ : sameControl s u) (h₂ : sameControl u t) : sameControl s t := by
  obtain ⟨hime, hei, hcpu, hfault⟩ := h₁
  obtain ⟨hime', hei', hcpu', hfault'⟩ := h₂
  exact ⟨hime'.trans hime, hei'.trans hei, hcpu'.trans hcpu, hfault'.trans hfault⟩

/-- A completed instruction's effect. -/
theorem effect_of_exec {i : Instr} {s t : State} (h : exec i s = .next t) : BodyEffect i s t := by
  obtain ⟨u, hu, he⟩ := exec_effect i s
  rw [h] at hu
  cases hu
  exact he

/-- Settles O26: of the effects only a register change writes F, and it says that the instruction is in R20's list. -/
theorem flagsWrittenOnlyByListed : Obligations.FlagsWrittenOnlyByListed := by
  unfold Obligations.FlagsWrittenOnlyByListed
  intro i s t h hi
  cases effect_of_exec h with
  | registers hu _ hf _ => exact (hf.resolve_left hi).trans hu.f_eq
  | reti | di | ei | halt | stop | undefined => rfl

/-- Settles O28: bus writes and register changes leave the control state alone, and each of the other six effects names its
instruction and the fields it writes. -/
theorem controlStateWriters : Obligations.ControlStateWriters := by
  unfold Obligations.ControlStateWriters
  intro i s t h
  cases effect_of_exec h with
  | registers hu ht _ _ =>
    obtain ⟨hime, hei, hcpu, hfault⟩ := hu.sameControl.trans ht.sameControl
    exact ⟨absurd hime, absurd hei, absurd hcpu, absurd hfault⟩
  | reti hi => exact ⟨fun _ => .inr ⟨hi, rfl⟩, absurd rfl, absurd rfl, absurd rfl⟩
  | di hi => exact ⟨fun _ => .inl ⟨hi, rfl⟩, fun _ => .inl ⟨hi, rfl⟩, absurd rfl, absurd rfl⟩
  | ei hi => exact ⟨absurd rfl, fun _ => .inr ⟨hi, rfl⟩, absurd rfl, absurd rfl⟩
  | halt hi => exact ⟨absurd rfl, absurd rfl, fun _ => .inl ⟨hi, rfl⟩, absurd rfl⟩
  | stop pad hi => exact ⟨absurd rfl, absurd rfl, fun _ => .inr ⟨pad, hi, rfl⟩, absurd rfl⟩
  | undefined op hi => exact ⟨absurd rfl, absurd rfl, absurd rfl, fun _ => ⟨op, hi⟩⟩

end Sys2Proof.Machine

/-! SUPPORT. The machine's invariant is kept by every part of a step: bus writes, an instruction's body, taking an interrupt,
and one clock cycle of the timer (spec/60_exceptions.md R191 to R196). -/

namespace Sys2Proof.Machine

/-! ## The invariant through bus writes, register changes and an instruction's body -/

namespace State.Inv

variable {s t : State}

/-- The invariant speaks of memory, the timer's counters, the breakpoint set and the parameters only. -/
theorem congr (h : s.Inv) (hp : t.params = s.params) (hm : t.mem = s.mem) (hd : t.div16 = s.div16) (hti : t.tima = s.tima)
    (hr : t.reloadPending = s.reloadPending) (hb : t.breakpoints = s.breakpoints) : t.Inv := by
  obtain ⟨h1, h2, h3, h4, h5, h6, h7⟩ := h
  constructor <;> simpa only [hp, hm, hd, hti, hr, hb]

theorem onlyRegisters (h : s.Inv) (ht : onlyRegistersChanged s t) : t.Inv := by
  unfold onlyRegistersChanged at ht
  rw [ht]
  exact h.congr rfl rfl rfl rfl rfl rfl

/-- Clearing the divider starts a new phase, from which the whole delay window lies ahead (R195, R196). -/
theorem clearDivider (h : s.Inv) : { s with div16 := 0 }.Inv :=
  { h with reload_phase := fun _ => by simpa using h.reload_bounded }

/-- A write to TIMA cancels the reload (R196). -/
theorem writeTima (h : s.Inv) (v : Byte) : { s with tima := v, reloadPending := 0 }.Inv :=
  { h with
    reload_bounded := Nat.zero_le _
    reload_zero := absurd rfl
    reload_phase := absurd rfl }

theorem memWrite (h : s.Inv) (x : Word) (v : Byte) : (memWrite s x v).Inv := by
  have hwf := memWrite_mem_wf s x v h.mem_canonical
  have hbacked := memWrite_mem_backed s x v h.mem_backed
  unfold Machine.memWrite at hwf hbacked ⊢
  cases hx : busTarget s.params x with simp only [hx] at hwf hbacked ⊢
  | ram k => exact { h with mem_canonical := hwf, mem_backed := hbacked }
  | div => exact h.clearDivider
  | tima => exact h.writeTima v
  | rom | unmapped | tma | tac | iflag | ie | hook => exact h.congr rfl rfl rfl rfl rfl rfl

theorem busWrites (h : s.Inv) (ht : BusWrites s t) : t.Inv := by
  induction ht with
  | none => exact h
  | write x v _ ih => exact ih.memWrite x v

/-- Every effect of an instruction's body keeps the invariant; STOP clears the divider. -/
theorem bodyEffect {i : Instr} (h : s.Inv) (he : BodyEffect i s t) : t.Inv := by
  cases he with
  | registers hu ht _ _ => exact (h.busWrites hu).onlyRegisters ht
  | stop => exact h.clearDivider.congr rfl rfl rfl rfl rfl rfl
  | reti | di | ei | halt | undefined => exact h.congr rfl rfl rfl rfl rfl rfl

theorem wake (h : s.Inv) : (wake s).Inv := h.congr (by simp) (by simp) (by simp) (by simp) (by simp) (by simp)

theorem beforeBody (h : s.Inv) (i : Instr) : (beforeBody i s).Inv := by
  unfold Machine.beforeBody
  split
  · exact h
  · exact h.congr (by simp) (by simp) (by simp) (by simp) (by simp) (by simp)

/-- Taking an interrupt is a push beside changes of control state, PC and IF. -/
theorem takeInterrupt (h : s.Inv) (i : IntSource) : (takeInterrupt i s).Inv := by
  have hc : { s with ime := false, eiDelay := false }.Inv := h.congr rfl rfl rfl rfl rfl rfl
  unfold Machine.takeInterrupt
  rw [push16_eq]
  exact ((hc.memWrite _ _).memWrite _ _).congr rfl rfl rfl rfl rfl rfl

end State.Inv

/-! ## One clock cycle -/

theorem countReload_reloadPending (s : State) : (countReload s).reloadPending = s.reloadPending - 1 := by
  unfold countReload
  split_ifs with h0 h1
  · rw [h0]
  · simp [h1]
  · rfl

/-- TIMA takes TMA when the delay ends, and not before (R192). -/
theorem countReload_tima (s : State) : (countReload s).tima = if s.reloadPending = 1 then s.tma else s.tima := by
  unfold countReload
  split_ifs with h0 h1 h1
  · omega
  all_goals simp

/-- Every selectable bit is bit 3 or above, so its falling edge is a carry out of the divider's low four bits (R194). -/
theorem low_nibble_of_fallingEdge {s : State} {old : Word} (h : fallingEdge s old = true) : old.toNat % 16 = 15 := by
  have hlt := old.isLt
  unfold fallingEdge selectedBit at h
  simp only [Bool.and_eq_true, Bool.not_eq_true', BitVec.getLsbD, BitVec.toNat_add, Nat.testBit_eq_decide_div_mod_eq,
    decide_eq_true_eq, decide_eq_false_iff_not] at h
  -- the four clock selects
  split at h <;> simp at h <;> omega

/-- What the second and third part of a clock cycle do: the divider counts, and only at the end of a phase of 16 clock
cycles can TIMA be clocked. -/
theorem countDivider_cases (s : State) :
    countDivider s = { s with div16 := s.div16 + 1 } ∨
      (s.div16.toNat % 16 = 15 ∧ countDivider s = incrementTima { s with div16 := s.div16 + 1 }) := by
  unfold countDivider
  dsimp only
  split_ifs with h
  · rw [Bool.and_eq_true] at h
    exact .inr ⟨low_nibble_of_fallingEdge h.2, rfl⟩
  · exact .inl rfl

theorem low_nibble_add_one (d : Word) : (d + 1).toNat % 16 = (d.toNat % 16 + 1) % 16 := by
  have := d.isLt
  rw [BitVec.toNat_add]
  simp

namespace State.Inv

variable {s : State}

theorem reloadDelay_le (h : s.Inv) : s.params.timerReloadDelay ≤ 15 := by
  have hp := h.params_legal
  simp only [legalParams, Bool.and_eq_true, decide_eq_true_eq] at hp
  obtain ⟨⟨-, hmax⟩, -⟩ := hp
  exact hmax

/-- While a reload is pending the divider is not at the end of a phase, so no falling edge comes (R195). -/
theorem not_pending_of_low_nibble (h : s.Inv) (hd : s.div16.toNat % 16 = 15) : s.reloadPending = 0 := by
  by_contra hr
  have := h.reload_phase hr
  have := h.reloadDelay_le
  omega

/-- A count of the divider without a falling edge spends one cycle of the delay. -/
theorem countReload_div (h : s.Inv) : { countReload s with div16 := s.div16 + 1 }.Inv := by
  have hr := countReload_reloadPending s
  have hbound := h.reload_bounded
  have hdelay := h.reloadDelay_le
  refine ⟨?_, ?_, ?_, ?_, ?_, ?_, ?_⟩ <;>
    simp only [countReload_params, countReload_mem, countReload_breakpoints, hr, low_nibble_add_one]
  · exact h.params_legal
  · exact h.mem_canonical
  · exact h.mem_backed
  · omega
  · intro hne
    rw [countReload_tima, if_neg (by omega)]
    exact h.reload_zero (by omega)
  · intro hne
    have := h.reload_phase (by omega)
    omega
  · exact h.breakpoints_distinct

/-- An increment of TIMA at the start of a phase: an overflow has the whole delay before the next falling edge. -/
theorem incrementTima (h : s.Inv) (hr : s.reloadPending = 0) (hd : s.div16.toNat % 16 = 0) : (incrementTima s).Inv := by
  unfold Machine.incrementTima
  split_ifs
  · exact { h with
      reload_bounded := le_rfl
      reload_zero := fun _ => rfl
      reload_phase := fun _ => by simp [hd] }
  · exact { h with
      reload_zero := absurd hr
      reload_phase := absurd hr }

theorem tick1 (h : s.Inv) : (tick1 s).Inv := by
  have hc := h.countReload_div
  have hcases := countDivider_cases (countReload s)
  rw [countReload_div16] at hcases
  unfold Machine.tick1
  obtain he | ⟨hd, he⟩ := hcases <;> rw [he]
  · exact hc
  · have hr := h.not_pending_of_low_nibble hd
    have hr' : (countReload s).reloadPending = 0 := by rw [countReload_reloadPending, hr]
    have hd' : (s.div16 + 1).toNat % 16 = 0 := by rw [low_nibble_add_one, hd]
    exact hc.incrementTima hr' hd'

theorem tick (h : s.Inv) (n : Nat) : (tick n s).Inv := by
  induction n generalizing s with
  | zero => exact h
  | succ n ih => exact ih h.tick1

end State.Inv

/-- Settles O7: each way a step can answer a next state keeps the invariant. -/
theorem stepKeepsInvariant : Obligations.StepKeepsInvariant := by
  unfold Obligations.StepKeepsInvariant
  intro s t h hstep
  obtain ⟨r, hr, rfl⟩ := step_eq_next.1 hstep
  rcases (engineStep_cases hr).2 with
    ⟨-, rfl⟩ | ⟨-, ⟨source, -, rfl⟩ | ⟨-, -, rfl⟩ | ⟨-, -, -, rfl⟩ | ⟨-, -, -, hrun⟩⟩
  · exact h
  · exact (h.wake.takeInterrupt source).tick 20
  · exact h.tick 4
  · exact h.congr rfl rfl rfl rfl rfl rfl
  · obtain ⟨u, hu, -, hafter, -⟩ := runInstr_next hrun
    rw [hafter]
    exact ((h.beforeBody _).bodyEffect (effect_of_exec hu)).tick _

end Sys2Proof.Machine

/-! SUPPORT. Power-on and `reset()` (spec/10_state.md R39, spec/70_reset_and_hazards.md R214). -/

namespace Sys2Proof.Machine

/-! ## Two lists of cells, one behind the other -/

theorem Memory.read_of_forall_ne {m : List Host.Cell} {a : Nat} (h : ∀ c ∈ m, c.1 ≠ a) :
    Memory.read m a = Memory.unlisted a := by
  induction m with
  | nil => rfl
  | cons c rest ih => rw [Memory.read, if_neg (h c (by simp)), ih fun x hx => h x (by simp [hx])]

/-- Cells for other addresses in front do not count. -/
theorem Memory.read_append_of_forall_ne_left {m₁ : List Host.Cell} (m₂ : List Host.Cell) {a : Nat} (h : ∀ c ∈ m₁, c.1 ≠ a) :
    Memory.read (m₁ ++ m₂) a = Memory.read m₂ a := by
  rw [Memory.read_append, if_neg]
  simpa only [List.any_eq_true, beq_iff_eq, not_exists, not_and] using h

/-- Cells for other addresses behind do not count. -/
theorem Memory.read_append_of_forall_ne_right (m₁ : List Host.Cell) {m₂ : List Host.Cell} {a : Nat} (h : ∀ c ∈ m₂, c.1 ≠ a) :
    Memory.read (m₁ ++ m₂) a = Memory.read m₁ a := by
  rw [Memory.read_append]
  split_ifs with ha
  · rfl
  · simp only [List.any_eq_true, beq_iff_eq, not_exists, not_and] at ha
    rw [Memory.read_of_forall_ne h, Memory.read_of_forall_ne ha]

/-! ## The ROM half and the RAM half of memory -/

theorem read_initialRam {p : Params} {k : Nat} (h : isRamAddress p k = true) :
    Memory.read (initialRam p) k = Memory.read p.ramInit k :=
  Memory.read_filter _ _ _ fun _ => h

theorem initialRam_ge {p : Params} {c : Host.Cell} (h : c ∈ initialRam p) : 0x8000 ≤ c.1 :=
  (isRamAddress_ge (List.mem_filter.1 h).2).1

/-- RAM_INIT puts nothing into the ROM. -/
theorem initialRam_ne {p : Params} {a : Nat} (h : a ≤ 0x7FFF) : ∀ c ∈ initialRam p, c.1 ≠ a := by
  intro c hc
  have := initialRam_ge hc
  omega

theorem romCell_ne (m : List Host.Cell) {k : Nat} (h : 0x8000 ≤ k) :
    ∀ c ∈ m.filter (fun cell => isRomAddress cell.1), c.1 ≠ k := by
  intro c hc
  have := (List.mem_filter.1 hc).2
  simp only [isRomAddress, decide_eq_true_eq] at this
  omega

/-! ## The values -/

/-- A state that power-on or `reset()` leaves: power-on values in all that the two share, and RAM as RAM_INIT says. -/
theorem atReset_of_powerOn {p : Params} {t : State}
    (h : t = { State.powerOn p with
      mem := t.mem, hookTrace := t.hookTrace, breakpoints := t.breakpoints, cancelFlag := t.cancelFlag })
    (hram : ∀ k, isRamAddress p k = true → Memory.read t.mem k = Memory.read p.ramInit k) : atReset p t := by
  have hread : ∀ addr k, busTarget p addr = .ram k → memRead t addr = Memory.read p.ramInit k := by
    intro addr k hk
    have hp : t.params = p := by rw [h]; rfl
    rw [← hp] at hk
    rw [memRead_of_ram hk, hram k (hp ▸ isRamAddress_of_ram hk)]
  rw [h] at hread ⊢
  exact ⟨rfl, rfl, rfl, rfl, rfl, rfl, rfl, rfl, rfl, rfl, rfl, rfl, rfl, rfl, rfl, rfl, rfl, rfl, rfl, rfl, rfl, rfl, hread⟩

theorem atReset_powerOn (p : Params) : atReset p (State.powerOn p) :=
  atReset_of_powerOn rfl fun _ => read_initialRam

theorem atReset_hostReset (s : State) : atReset s.params (hostReset s) :=
  atReset_of_powerOn rfl fun _ hk =>
    (Memory.read_append_of_forall_ne_left _ (romCell_ne _ (isRamAddress_ge hk).1)).trans (read_initialRam hk)

theorem memRead_powerOn_rom (p : Params) {addr : Word} (h : addr.toNat ≤ 0x7FFF) : memRead (State.powerOn p) addr = 0x00 := by
  rw [memRead_of_rom _ h]
  exact Memory.read_of_forall_ne (initialRam_ne h)

/-- `reset()` keeps the ROM image (R214). -/
theorem memRead_hostReset_rom (s : State) {addr : Word} (h : addr.toNat ≤ 0x7FFF) :
    memRead (hostReset s) addr = memRead s addr := by
  rw [memRead_of_rom _ h, memRead_of_rom _ h]
  refine (Memory.read_append_of_forall_ne_right _ (initialRam_ne h)).trans (Memory.read_filter _ _ _ fun _ => ?_)
  simp only [isRomAddress, decide_eq_true_eq]
  omega

/-- Settles O5: the ROM half of memory and the RAM half hold no cell of the other, so each reads as its own part says. -/
theorem resetValues : Obligations.ResetValues := by
  unfold Obligations.ResetValues
  exact ⟨fun p => ⟨atReset_powerOn p, rfl, rfl, fun _ => memRead_powerOn_rom p⟩,
    fun s => ⟨atReset_hostReset s, rfl, rfl, fun _ => memRead_hostReset_rom s⟩⟩

theorem powerOn_inv {p : Params} (h : legalParams p = true) : (State.powerOn p).Inv where
  params_legal := h
  mem_canonical := by
    simp only [legalParams, Bool.and_eq_true] at h
    exact Memory.wf_filter _ h.2
  mem_backed := fun c hc => by
    have hram := (List.mem_filter.1 hc).2
    simpa [isBacked] using .inr hram
  reload_bounded := Nat.zero_le _
  reload_zero := absurd rfl
  reload_phase := absurd rfl
  breakpoints_distinct := .nil

/-- Settles O6: the reset state is power-on at the default parameters, which are legal. -/
theorem powerOnInvariant : Obligations.PowerOnInvariant := by
  unfold Obligations.PowerOnInvariant
  exact ⟨fun _ => powerOn_inv, powerOn_inv (by decide)⟩

end Sys2Proof.Machine

/-! SUPPORT. The bus by what an address selects (spec/20_memory.md R42 to R54): the decision lists of MemRead and MemWrite,
hooked addresses, read after write and the echo of WRAM. -/

namespace Sys2Proof.Machine

/-! ## MemRead and MemWrite as functions of the selected target

A function of the target distributes over the decision list `busTarget_chain`. -/

/-- What a read answers where the address selects `target` (R52). -/
def readTarget (s : State) (target : BusTarget) : Byte :=
  match target with
  | .rom k | .ram k => Memory.read s.mem k
  | .unmapped => 0xFF
  | .div => s.div16.extractLsb' 8 8
  | .tima => s.tima
  | .tma => s.tma
  | .tac => 0xF8 ||| s.tac.zeroExtend 8
  | .iflag => 0xE0 ||| s.ifl.zeroExtend 8
  | .ie => s.ie
  | .hook a => Config.hookRead s.hookTrace a

theorem memRead_eq_readTarget (s : State) (addr : Word) : memRead s addr = readTarget s (busTarget s.params addr) := by
  unfold memRead
  cases busTarget s.params addr <;> rfl

/-- What a write of `v` answers where the address selects `target` (R53); `trace` is the devices' record after a write that
reaches them. -/
def writeTarget (s : State) (v : Byte) (trace : List HookEvent) (target : BusTarget) : State :=
  match target with
  | .rom _ | .unmapped => s
  | .ram k => { s with mem := Memory.write s.mem k v }
  | .div => { s with div16 := 0 }
  | .tima => { s with tima := v, reloadPending := 0 }
  | .tma => { s with tma := v }
  | .tac => { s with tac := v.extractLsb' 0 3 }
  | .iflag => { s with ifl := v.extractLsb' 0 5 }
  | .ie => { s with ie := v }
  | .hook _ => { s with hookTrace := trace }

theorem memWrite_eq_writeTarget (s : State) (addr : Word) (v : Byte) :
    memWrite s addr v = writeTarget s v (memWrite s addr v).hookTrace (busTarget s.params addr) := by
  unfold memWrite
  cases busTarget s.params addr with
  | tac | iflag => rw [writeTarget, ← BitVec.setWidth_eq_extractLsb' (by decide)]
  | rom | ram | unmapped | div | tima | tma | ie | hook => rfl

/-- Settles O9: reading distributes over the decision list of the address map. -/
theorem memReadMap : Obligations.MemReadMap := by
  unfold Obligations.MemReadMap
  intro s addr
  rw [memRead_eq_readTarget, busTarget_chain]
  simp only [apply_ite (readTarget s)]
  rfl

/-- Settles O10: writing distributes over the decision list of the address map. -/
theorem memWriteMap : Obligations.MemWriteMap := by
  unfold Obligations.MemWriteMap
  intro s addr v
  have h := memWrite_eq_writeTarget s addr v
  simp only [busTarget_chain, apply_ite (writeTarget s v _)] at h
  exact h

/-! ## What the ranges of the address map select -/

section

variable {p : Params} {x : Word}

theorem busTarget_vram (hlow : 0x8000 ≤ x.toNat) (hhigh : x.toNat ≤ 0x9FFF) : busTarget p x = .ram x.toNat := by
  rw [busTarget, if_neg (by omega), if_pos (by omega), ramTarget, if_pos hhigh]

theorem busTarget_extram (hlow : 0xA000 ≤ x.toNat) (hhigh : x.toNat ≤ 0xBFFF) (h : p.extramPresent = true) :
    busTarget p x = .ram x.toNat := by
  rw [busTarget, if_neg (by omega), if_pos (by omega), ramTarget, if_neg (by omega), if_pos hhigh, if_pos h]

theorem busTarget_wram (hlow : 0xC000 ≤ x.toNat) (hhigh : x.toNat ≤ 0xDFFF) : busTarget p x = .ram x.toNat := by
  rw [busTarget, if_neg (by omega), if_pos (by omega), ramTarget, if_neg (by omega), if_neg (by omega), if_pos hhigh]

theorem busTarget_echo (hlow : 0xE000 ≤ x.toNat) (hhigh : x.toNat ≤ 0xFDFF) :
    busTarget p x = .ram (x.toNat - 0x2000) := by
  rw [busTarget, if_neg (by omega), if_pos hhigh, ramTarget, if_neg (by omega), if_neg (by omega), if_neg (by omega)]

theorem busTarget_oam (hlow : 0xFE00 ≤ x.toNat) (hhigh : x.toNat ≤ 0xFE9F) : busTarget p x = .ram x.toNat := by
  rw [busTarget, if_neg (by omega), if_neg (by omega), topTarget, if_pos hhigh]

theorem busTarget_io (hlow : 0xFF00 ≤ x.toNat) (hhigh : x.toNat ≤ 0xFF7F) : busTarget p x = ioTarget p x := by
  rw [busTarget, if_neg (by omega), if_neg (by omega), topTarget, if_neg (by omega), if_neg (by omega), if_pos hhigh]

theorem busTarget_hram (hlow : 0xFF80 ≤ x.toNat) (hhigh : x.toNat ≤ 0xFFFE) : busTarget p x = .ram x.toNat := by
  rw [busTarget, if_neg (by omega), if_neg (by omega), topTarget, if_neg (by omega), if_neg (by omega), if_neg (by omega),
    if_pos hhigh]

/-- R54: at an address the core does not own, the hooks decide. -/
theorem ioTarget_of_not_owned (h : x ∉ ([0xFF04, 0xFF05, 0xFF06, 0xFF07, 0xFF0F] : List Word)) :
    ioTarget p x = if p.hooked.contains x then .hook x else .ram x.toNat := by
  simp only [List.mem_cons, List.not_mem_nil, or_false, not_or] at h
  obtain ⟨hdiv, htima, htma, htac, hif⟩ := h
  rw [ioTarget, if_neg hdiv, if_neg htima, if_neg htma, if_neg htac, if_neg hif]

theorem busTarget_hooked (hlow : 0xFF00 ≤ x.toNat) (hhigh : x.toNat ≤ 0xFF7F)
    (howned : x ∉ ([0xFF04, 0xFF05, 0xFF06, 0xFF07, 0xFF0F] : List Word)) (h : x ∈ p.hooked) : busTarget p x = .hook x := by
  rw [busTarget_io hlow hhigh, ioTarget_of_not_owned howned, if_pos (List.contains_iff_mem.2 h)]

theorem busTarget_plainIo (hlow : 0xFF00 ≤ x.toNat) (hhigh : x.toNat ≤ 0xFF7F)
    (howned : x ∉ ([0xFF04, 0xFF05, 0xFF06, 0xFF07, 0xFF0F] : List Word)) (h : x ∉ p.hooked) :
    busTarget p x = .ram x.toNat := by
  rw [busTarget_io hlow hhigh, ioTarget_of_not_owned howned, if_neg (mt List.contains_iff_mem.1 h)]

/-- R46: an echo address selects the WRAM byte 0x2000 lower. -/
theorem busTarget_echo_eq_wram (hlow : 0xE000 ≤ x.toNat) (hhigh : x.toNat ≤ 0xFDFF) :
    busTarget p x = busTarget p (x - 0x2000) := by
  have hsub : (x - 0x2000).toNat = x.toNat - 0x2000 := by bv_omega
  rw [busTarget_echo hlow hhigh, busTarget_wram (by omega) (by omega), hsub]

end

/-- Settles O11: the address selects the device. -/
theorem hookedAccess : Obligations.HookedAccess := by
  unfold Obligations.HookedAccess
  intro s addr v hlow hhigh howned hhook
  have ht := busTarget_hooked hlow hhigh howned hhook
  exact ⟨by rw [memRead, ht], by rw [memWrite, ht]⟩

/-! ## Read after write -/

/-- Whether a target reads as the byte last written to it. -/
def BusTarget.readsBack (target : BusTarget) : Bool :=
  match target with
  | .ram _ | .tima | .tma | .ie => true
  | .rom _ | .unmapped | .div | .tac | .iflag | .hook _ => false

theorem memRead_memWrite_of_readsBack {s : State} {x : Word} (v : Byte) (h : (busTarget s.params x).readsBack = true) :
    memRead (memWrite s x v) x = v := by
  rw [memRead_memWrite_same]
  revert h
  cases busTarget s.params x with
  | ram | tima | tma | ie => exact fun _ => rfl
  | rom | unmapped | div | tac | iflag | hook => exact nofun

/-- The ranges that read back whatever the parameters are (R44, R46, R47, R50, R51), TIMA and TMA. -/
theorem readsBack_busTarget {p : Params} {x : Word}
    (h : (0x8000 ≤ x.toNat ∧ x.toNat ≤ 0x9FFF) ∨ (0xC000 ≤ x.toNat ∧ x.toNat ≤ 0xFE9F) ∨ 0xFF80 ≤ x.toNat ∨
      x = 0xFF05 ∨ x = 0xFF06) : (busTarget p x).readsBack = true := by
  obtain ⟨hlow, hhigh⟩ | ⟨hlow, hhigh⟩ | hlow | rfl | rfl := h
  · rw [busTarget_vram hlow hhigh, BusTarget.readsBack]
  · by_cases hwram : x.toNat ≤ 0xDFFF
    · rw [busTarget_wram hlow hwram, BusTarget.readsBack]
    by_cases hecho : x.toNat ≤ 0xFDFF
    · rw [busTarget_echo (by omega) hecho, BusTarget.readsBack]
    · rw [busTarget_oam (by omega) hhigh, BusTarget.readsBack]
  · by_cases hhram : x.toNat ≤ 0xFFFE
    · rw [busTarget_hram hlow hhram, BusTarget.readsBack]
    · have hie : x = 0xFFFF := by bv_omega
      rw [hie]
      rfl
  · rfl
  · rfl

/-- Settles O12: each of the listed addresses selects a target that reads back, and the frame is that of one MemWrite. -/
theorem readAfterWrite : Obligations.ReadAfterWrite := by
  unfold Obligations.ReadAfterWrite
  intro s x v
  refine ⟨fun h => ?always, fun hlow hhigh h => ?extram, fun hlow hhigh howned h => ?plainIo, memWrite_storeFrame s x v,
    memWrite_f s x v, memWrite_sp s x v, memWrite_pc s x v⟩ <;> apply memRead_memWrite_of_readsBack
  case always => exact readsBack_busTarget h
  case extram => rw [busTarget_extram hlow hhigh h, BusTarget.readsBack]
  case plainIo => rw [busTarget_plainIo hlow hhigh howned h, BusTarget.readsBack]

/-! ## The echo of WRAM -/

theorem memRead_congr_busTarget (s : State) {a b : Word} (h : busTarget s.params a = busTarget s.params b) :
    memRead s a = memRead s b := by
  rw [memRead, memRead, h]

theorem memWrite_congr_busTarget (s : State) {a b : Word} (v : Byte) (h : busTarget s.params a = busTarget s.params b) :
    memWrite s a v = memWrite s b v := by
  rw [memWrite, memWrite, h]

/-- Settles O13: an echo address and its WRAM address select the same byte. -/
theorem echoOfWorkRam : Obligations.EchoOfWorkRam := by
  unfold Obligations.EchoOfWorkRam
  refine ⟨fun s a v hlow hhigh => ?wram, fun s a v hlow hhigh => ?echo⟩
  case wram =>
    exact memRead_memWrite_of_readsBack v (readsBack_busTarget (.inr (.inl ⟨hlow, hhigh.trans (by decide)⟩)))
  case echo =>
    have h : busTarget s.params a = busTarget s.params (a - 0x2000) := busTarget_echo_eq_wram hlow hhigh
    exact ⟨memRead_congr_busTarget s h, memWrite_congr_busTarget s v h⟩

end Sys2Proof.Machine

/-! SUPPORT. Every part of a step keeps the ROM (spec/20_memory.md R43, R66) and the host's side: the breakpoint set,
cancel_flag and the parameters. -/

namespace Sys2Proof.Machine

/-- Every ROM address reads as before, and the breakpoint set, cancel_flag and the parameters are what they were. -/
def keepsRomAndHostSide (s t : State) : Prop :=
  (∀ addr : Word, addr.toNat ≤ 0x7FFF → memRead t addr = memRead s addr) ∧ sameHostSide s t

namespace keepsRomAndHostSide

variable {s t u : State}

/-- A ROM address reads from memory alone. -/
theorem of_eq (hm : t.mem = s.mem) (hb : t.breakpoints = s.breakpoints) (hc : t.cancelFlag = s.cancelFlag)
    (hp : t.params = s.params) : keepsRomAndHostSide s t :=
  ⟨fun addr h => by rw [memRead_of_rom t h, memRead_of_rom s h, hm], hb, hc, hp⟩

theorem trans (h₁ : keepsRomAndHostSide s t) (h₂ : keepsRomAndHostSide t u) : keepsRomAndHostSide s u := by
  obtain ⟨hrom, hb, hc, hp⟩ := h₁
  obtain ⟨hrom', hb', hc', hp'⟩ := h₂
  exact ⟨fun addr h => (hrom' addr h).trans (hrom addr h), hb'.trans hb, hc'.trans hc, hp'.trans hp⟩

theorem memWrite (s : State) (x : Word) (v : Byte) : keepsRomAndHostSide s (memWrite s x v) :=
  ⟨fun _ h => memRead_memWrite_of_rom s x v h, memWrite_breakpoints s x v, memWrite_cancelFlag s x v, memWrite_params s x v⟩

theorem busWrites (h : BusWrites s t) : keepsRomAndHostSide s t := by
  induction h with
  | none => exact of_eq rfl rfl rfl rfl
  | write x v _ ih => exact ih.trans (memWrite _ x v)

theorem onlyRegisters (h : onlyRegistersChanged s t) : keepsRomAndHostSide s t := by
  unfold onlyRegistersChanged at h
  rw [h]
  exact of_eq rfl rfl rfl rfl

theorem bodyEffect {i : Instr} (h : BodyEffect i s t) : keepsRomAndHostSide s t := by
  cases h with
  | registers hu ht _ _ => exact (busWrites hu).trans (onlyRegisters ht)
  | reti | di | ei | halt | stop | undefined => exact of_eq rfl rfl rfl rfl

theorem wake (s : State) : keepsRomAndHostSide s (wake s) := of_eq (by simp) (by simp) (by simp) (by simp)

theorem tick (n : Nat) (s : State) : keepsRomAndHostSide s (tick n s) := of_eq (by simp) (by simp) (by simp) (by simp)

theorem beforeBody (i : Instr) (s : State) : keepsRomAndHostSide s (beforeBody i s) := by
  unfold Machine.beforeBody
  split
  · exact of_eq rfl rfl rfl rfl
  · exact of_eq (by simp) (by simp) (by simp) (by simp)

/-- Taking an interrupt is a push beside changes of control state, PC and IF. -/
theorem takeInterrupt (i : IntSource) (s : State) : keepsRomAndHostSide s (takeInterrupt i s) := by
  have hcontrol : keepsRomAndHostSide s { s with ime := false, eiDelay := false } := of_eq rfl rfl rfl rfl
  unfold Machine.takeInterrupt
  rw [push16_eq]
  exact ((hcontrol.trans (memWrite _ _ _)).trans (memWrite _ _ _)).trans (of_eq rfl rfl rfl rfl)

end keepsRomAndHostSide

/-- Settles O14: a write to the ROM region is dropped, and each way a step can answer a next state keeps the ROM and the
host's side. -/
theorem stepKeepsRomAndHostSide : Obligations.StepKeepsRomAndHostSide := by
  unfold Obligations.StepKeepsRomAndHostSide
  refine ⟨fun s x v h => memWrite_rom s v h, fun s t hstep => ?_⟩
  obtain ⟨r, hr, rfl⟩ := step_eq_next.1 hstep
  change keepsRomAndHostSide s r.after
  rcases (engineStep_cases hr).2 with
    ⟨-, rfl⟩ | ⟨-, ⟨source, -, rfl⟩ | ⟨-, -, rfl⟩ | ⟨-, -, -, rfl⟩ | ⟨-, -, -, hrun⟩⟩
  · exact .of_eq rfl rfl rfl rfl
  · exact ((keepsRomAndHostSide.wake s).trans (.takeInterrupt source _)).trans (.tick 20 _)
  · exact .tick 4 s
  · exact .of_eq rfl rfl rfl rfl
  · obtain ⟨u, hu, -, hafter, -⟩ := runInstr_next hrun
    rw [hafter]
    exact ((keepsRomAndHostSide.beforeBody _ s).trans (.bodyEffect (effect_of_exec hu))).trans (.tick _ _)

end Sys2Proof.Machine

/-! SUPPORT. The ROM image that `loadROM` installs (spec/20_memory.md R55). -/

namespace Sys2Proof.Machine

/-! ## The cells of an image -/

/-- The cells of an image whose first byte stands at address `n`; a 0x00 byte has none. -/
def imageCells (image : List Byte) (n : Nat) : List Host.Cell :=
  ((image.zipIdx n).map fun entry => (entry.2, entry.1)).filter fun cell => cell.2 != 0x00

theorem romCells_eq_imageCells (image : List Byte) : romCells image = imageCells (image.take 0x8000) 0 := rfl

theorem imageCells_cons (b : Byte) (rest : List Byte) (n : Nat) :
    imageCells (b :: rest) n = if b = 0x00 then imageCells rest (n + 1) else (n, b) :: imageCells rest (n + 1) := by
  unfold imageCells
  rw [List.zipIdx_cons, List.map_cons, List.filter_cons]
  by_cases hb : b = 0x00 <;> simp [hb]

/-- The first byte reads at its own address, with a cell or without one. -/
theorem read_imageCells_cons {b : Byte} {rest : List Byte} {n a : Nat}
    (hfree : Memory.read (imageCells rest (n + 1)) n = 0x00) :
    Memory.read (imageCells (b :: rest) n) a = if n = a then b else Memory.read (imageCells rest (n + 1)) a := by
  rw [imageCells_cons]
  split_ifs with hb ha ha
  · rw [← ha, hfree, hb]
  · rfl
  · rw [Memory.read, if_pos ha]
  · rw [Memory.read, if_neg ha]

theorem read_imageCells (image : List Byte) (n a : Nat) :
    Memory.read (imageCells image n) a = if n ≤ a then image.getD (a - n) 0x00 else 0x00 := by
  induction image generalizing n a with
  | nil => simp [imageCells, Memory.read, Memory.unlisted]
  | cons b rest ih =>
    rw [read_imageCells_cons (by rw [ih, if_neg (by omega)])]
    obtain hbelow | rfl | habove := Nat.lt_trichotomy a n
    · rw [if_neg (by omega), ih, if_neg (by omega), if_neg (by omega)]
    · rw [if_pos rfl, if_pos le_rfl, Nat.sub_self, List.getD_cons_zero]
    · have hsub : a - n = a - (n + 1) + 1 := by omega
      rw [if_neg (by omega), ih, if_pos (by omega), if_pos (by omega), hsub, List.getD_cons_succ]

/-- The ROM holds the image's bytes, 0x00 past its end. -/
theorem read_romCells (image : List Byte) {a : Nat} (h : a ≤ 0x7FFF) :
    Memory.read (romCells image) a = image.getD a 0x00 := by
  rw [romCells_eq_imageCells, read_imageCells, if_pos (Nat.zero_le a), Nat.sub_zero, List.getD_eq_getElem?_getD,
    List.getElem?_take_of_lt (by omega), List.getD_eq_getElem?_getD]

/-- Bytes beyond 32768 are discarded. -/
theorem romCells_lt {image : List Byte} {c : Host.Cell} (h : c ∈ romCells image) : c.1 < 0x8000 := by
  obtain ⟨entry, hentry, rfl⟩ := List.mem_map.1 (List.mem_filter.1 h).1
  have hlt := List.snd_lt_of_mem_zipIdx hentry
  rw [List.length_take] at hlt
  dsimp only
  omega

/-! ## Reading after `loadROM` -/

theorem memRead_loadROM_rom (image : List Byte) (s : State) {addr : Word} (h : addr.toNat ≤ 0x7FFF) :
    memRead (loadROM image s) addr = image.getD addr.toNat 0x00 := by
  have hother : ∀ c ∈ s.mem.filter fun cell => !isRomAddress cell.1, c.1 ≠ addr.toNat := by
    intro c hc
    have hram := (List.mem_filter.1 hc).2
    simp only [isRomAddress, Bool.not_eq_true', decide_eq_false_iff_not] at hram
    omega
  rw [memRead_of_rom _ h, loadROM, Memory.read_append_of_forall_ne_right _ hother, read_romCells image h]

theorem read_loadROM_mem_of_ge (image : List Byte) (s : State) {k : Nat} (h : 0x8000 ≤ k) :
    Memory.read (loadROM image s).mem k = Memory.read s.mem k := by
  have hother : ∀ c ∈ romCells image, c.1 ≠ k := by
    intro c hc
    have hlt := romCells_lt hc
    omega
  rw [loadROM, Memory.read_append_of_forall_ne_left _ hother]
  exact Memory.read_filter _ _ _ fun _ => by simpa [isRomAddress] using h

theorem memRead_loadROM_of_not_rom (image : List Byte) (s : State) {addr : Word} (h : 0x7FFF < addr.toNat) :
    memRead (loadROM image s) addr = memRead s addr := by
  cases ht : busTarget s.params addr with
  | rom k =>
    rw [busTarget_rom_iff] at ht
    omega
  | ram k =>
    rw [memRead_of_ram (s := loadROM image s) ht, memRead_of_ram ht,
      read_loadROM_mem_of_ge image s (busTarget_ram_canonical ht).1]
  | unmapped | div | tima | tma | tac | iflag | ie | hook =>
    unfold memRead loadROM
    rw [ht]

/-- Settles O36: a ROM address reads the image's cells, and a RAM address the cells that `loadROM` keeps. -/
theorem loadRomInstallsImage : Obligations.LoadRomInstallsImage := by
  unfold Obligations.LoadRomInstallsImage
  exact fun image s => ⟨fun _ => memRead_loadROM_rom image s, fun _ => memRead_loadROM_of_not_rom image s, rfl⟩

end Sys2Proof.Machine

/-! SUPPORT. The decoder and the encoder are inverse to each other (spec/30_encoding.md R70 to R78): `roundTrip` for what the
encoder gives, `encode_decodeBytes` for what the decoder reads. -/

namespace Sys2Proof.Laws

open RoundTrip in
/-- The round trip of every instruction: the lemmas of the constructors, a line for half a row of the opcode maps. -/
theorem roundTrip (i : Instr) : RoundTrip.Statement i :=
  @Instr.rec RoundTrip.Statement
    nop ld_BC_d16 ld_atBC_A inc_BC inc_B dec_B ld_B_d8 rlca
    ld_atA16_SP add_HL_BC ld_A_atBC dec_BC inc_C dec_C ld_C_d8 rrca
    stop ld_DE_d16 ld_atDE_A inc_DE inc_D dec_D ld_D_d8 rla
    jr_r8 add_HL_DE ld_A_atDE dec_DE inc_E dec_E ld_E_d8 rra
    jr_NZ_r8 ld_HL_d16 ld_atHLI_A inc_HL inc_H dec_H ld_H_d8 daa
    jr_Z_r8 add_HL_HL ld_A_atHLI dec_HL inc_L dec_L ld_L_d8 cpl
    jr_NC_r8 ld_SP_d16 ld_atHLD_A inc_SP inc_atHL dec_atHL ld_atHL_d8 scf
    jr_C_r8 add_HL_SP ld_A_atHLD dec_SP inc_A dec_A ld_A_d8 ccf
    ld_B_B ld_B_C ld_B_D ld_B_E ld_B_H ld_B_L ld_B_atHL ld_B_A
    ld_C_B ld_C_C ld_C_D ld_C_E ld_C_H ld_C_L ld_C_atHL ld_C_A
    ld_D_B ld_D_C ld_D_D ld_D_E ld_D_H ld_D_L ld_D_atHL ld_D_A
    ld_E_B ld_E_C ld_E_D ld_E_E ld_E_H ld_E_L ld_E_atHL ld_E_A
    ld_H_B ld_H_C ld_H_D ld_H_E ld_H_H ld_H_L ld_H_atHL ld_H_A
    ld_L_B ld_L_C ld_L_D ld_L_E ld_L_H ld_L_L ld_L_atHL ld_L_A
    ld_atHL_B ld_atHL_C ld_atHL_D ld_atHL_E ld_atHL_H ld_atHL_L halt ld_atHL_A
    ld_A_B ld_A_C ld_A_D ld_A_E ld_A_H ld_A_L ld_A_atHL ld_A_A
    add_A_B add_A_C add_A_D add_A_E add_A_H add_A_L add_A_atHL add_A_A
    adc_A_B adc_A_C adc_A_D adc_A_E adc_A_H adc_A_L adc_A_atHL adc_A_A
    sub_B sub_C sub_D sub_E sub_H sub_L sub_atHL sub_A
    sbc_A_B sbc_A_C sbc_A_D sbc_A_E sbc_A_H sbc_A_L sbc_A_atHL sbc_A_A
    and_B and_C and_D and_E and_H and_L and_atHL and_A
    xor_B xor_C xor_D xor_E xor_H xor_L xor_atHL xor_A
    or_B or_C or_D or_E or_H or_L or_atHL or_A
    cp_B cp_C cp_D cp_E cp_H cp_L cp_atHL cp_A
    ret_NZ pop_BC jp_NZ_a16 jp_a16 call_NZ_a16 push_BC add_A_d8 rst_00H
    ret_Z ret jp_Z_a16 call_Z_a16 call_a16 adc_A_d8 rst_08H
    ret_NC pop_DE jp_NC_a16 undefined call_NC_a16 push_DE sub_d8 rst_10H
    ret_C reti jp_C_a16 call_C_a16 sbc_A_d8 rst_18H
    ldh_atA8_A pop_HL ld_atC_A push_HL and_d8 rst_20H
    add_SP_r8 jp_HL ld_atA16_A xor_d8 rst_28H
    ldh_A_atA8 pop_AF ld_A_atC di push_AF or_d8 rst_30H
    ld_HL_SPr8 ld_SP_HL ld_A_atA16 ei cp_d8 rst_38H
    rlc_B rlc_C rlc_D rlc_E rlc_H rlc_L rlc_atHL rlc_A
    rrc_B rrc_C rrc_D rrc_E rrc_H rrc_L rrc_atHL rrc_A
    rl_B rl_C rl_D rl_E rl_H rl_L rl_atHL rl_A
    rr_B rr_C rr_D rr_E rr_H rr_L rr_atHL rr_A
    sla_B sla_C sla_D sla_E sla_H sla_L sla_atHL sla_A
    sra_B sra_C sra_D sra_E sra_H sra_L sra_atHL sra_A
    swap_B swap_C swap_D swap_E swap_H swap_L swap_atHL swap_A
    srl_B srl_C srl_D srl_E srl_H srl_L srl_atHL srl_A
    bit_0_B bit_0_C bit_0_D bit_0_E bit_0_H bit_0_L bit_0_atHL bit_0_A
    bit_1_B bit_1_C bit_1_D bit_1_E bit_1_H bit_1_L bit_1_atHL bit_1_A
    bit_2_B bit_2_C bit_2_D bit_2_E bit_2_H bit_2_L bit_2_atHL bit_2_A
    bit_3_B bit_3_C bit_3_D bit_3_E bit_3_H bit_3_L bit_3_atHL bit_3_A
    bit_4_B bit_4_C bit_4_D bit_4_E bit_4_H bit_4_L bit_4_atHL bit_4_A
    bit_5_B bit_5_C bit_5_D bit_5_E bit_5_H bit_5_L bit_5_atHL bit_5_A
    bit_6_B bit_6_C bit_6_D bit_6_E bit_6_H bit_6_L bit_6_atHL bit_6_A
    bit_7_B bit_7_C bit_7_D bit_7_E bit_7_H bit_7_L bit_7_atHL bit_7_A
    res_0_B res_0_C res_0_D res_0_E res_0_H res_0_L res_0_atHL res_0_A
    res_1_B res_1_C res_1_D res_1_E res_1_H res_1_L res_1_atHL res_1_A
    res_2_B res_2_C res_2_D res_2_E res_2_H res_2_L res_2_atHL res_2_A
    res_3_B res_3_C res_3_D res_3_E res_3_H res_3_L res_3_atHL res_3_A
    res_4_B res_4_C res_4_D res_4_E res_4_H res_4_L res_4_atHL res_4_A
    res_5_B res_5_C res_5_D res_5_E res_5_H res_5_L res_5_atHL res_5_A
    res_6_B res_6_C res_6_D res_6_E res_6_H res_6_L res_6_atHL res_6_A
    res_7_B res_7_C res_7_D res_7_E res_7_H res_7_L res_7_atHL res_7_A
    set_0_B set_0_C set_0_D set_0_E set_0_H set_0_L set_0_atHL set_0_A
    set_1_B set_1_C set_1_D set_1_E set_1_H set_1_L set_1_atHL set_1_A
    set_2_B set_2_C set_2_D set_2_E set_2_H set_2_L set_2_atHL set_2_A
    set_3_B set_3_C set_3_D set_3_E set_3_H set_3_L set_3_atHL set_3_A
    set_4_B set_4_C set_4_D set_4_E set_4_H set_4_L set_4_atHL set_4_A
    set_5_B set_5_C set_5_D set_5_E set_5_H set_5_L set_5_atHL set_5_A
    set_6_B set_6_C set_6_D set_6_E set_6_H set_6_L set_6_atHL set_6_A
    set_7_B set_7_C set_7_D set_7_E set_7_H set_7_L set_7_atHL set_7_A i

end Sys2Proof.Laws

namespace Sys2Proof

/-! ## What the decoder accepts -/

theorem lengthOfOpcode_bounds (op : Byte) : 1 ≤ lengthOfOpcode op ∧ lengthOfOpcode op ≤ 3 := by
  revert op
  decide +kernel

/-- A byte string decodes if it is long enough for its first byte (R77, R78). -/
theorem decode_cons_eq_ok_iff {op : Byte} {bytes later : List Byte} {i : Instr} :
    decode (op :: bytes) = .ok (i, later) ↔
      lengthOfOpcode op ≤ bytes.length + 1 ∧ decodeBytes op (bytes.getD 0 0) (bytes.getD 1 0) = i ∧
        bytes.drop (lengthOfOpcode op - 1) = later := by
  unfold decode
  dsimp only
  split_ifs with hshort
  · have hlong : ¬lengthOfOpcode op ≤ bytes.length + 1 := by omega
    simp [hlong]
  · have hlong : lengthOfOpcode op ≤ bytes.length + 1 := by omega
    simp [hlong]

theorem exists_decode_iff (op : Byte) (bytes : List Byte) :
    (∃ i later, decode (op :: bytes) = .ok (i, later)) ↔ lengthOfOpcode op ≤ bytes.length + 1 := by
  simp only [decode_cons_eq_ok_iff, exists_and_left, exists_eq', and_true]

/-- Three bytes are enough for every opcode. -/
theorem exists_decode_three_iff (op b1 b2 : Byte) (i : Instr) :
    (∃ later, decode [op, b1, b2] = .ok (i, later)) ↔ decodeBytes op b1 b2 = i := by
  simp [decode_cons_eq_ok_iff, (lengthOfOpcode_bounds op).2]

/-- Settles O1, by the round trip of each constructor. -/
theorem decodeInvertsEncode : Obligations.DecodeInvertsEncode := by
  unfold Obligations.DecodeInvertsEncode
  intro i later hi
  obtain ⟨op, imm, henc, hlen, hdec⟩ := Laws.roundTrip i hi
  rw [henc, List.cons_append, decode_cons_eq_ok_iff]
  refine ⟨?_, hdec later, ?_⟩
  · rw [List.length_append]
    omega
  · rw [← hlen, List.drop_left]

/-! ## Encoding what was decoded

The immediate bytes reach the encoding unchanged (`encode_decodePrimary`), so the opcode maps need to be read without
immediates only (`encode_decodePrimary_zero`). -/

/-- The bytes of `i` with `b1` and `b2` in place of its immediate bytes. -/
def refill (i : Instr) (b1 b2 : Byte) : List Byte := (encode i).take 1 ++ [b1, b2].take (i.length - 1)

@[simp] theorem length_addHL (p : Pair) : (Form.addHL p).length = 1 := by cases p <;> rfl

@[simp] theorem length_incPair (p : Pair) : (Form.incPair p).length = 1 := by cases p <;> rfl

@[simp] theorem length_decPair (p : Pair) : (Form.decPair p).length = 1 := by cases p <;> rfl

@[simp] theorem length_inc (o : Operand8) : (Form.inc o).length = 1 := by
  unfold Form.inc
  split <;> rfl

@[simp] theorem length_dec (o : Operand8) : (Form.dec o).length = 1 := by
  unfold Form.dec
  split <;> rfl

@[simp] theorem length_alu (op : AluOp) (o : Operand8) : (Form.alu op o).length = 1 := by
  unfold Form.alu
  split <;> rfl

@[simp] theorem length_retCond (cc : Cond) : (Form.retCond cc).length = 1 := by cases cc <;> rfl

@[simp] theorem length_pop (p : StackPair) : (Form.pop p).length = 1 := by cases p <;> rfl

@[simp] theorem length_push (p : StackPair) : (Form.push p).length = 1 := by cases p <;> rfl

@[simp] theorem length_rst (t : Fin 8) : (Form.rst t).length = 1 := by
  unfold Form.rst
  split <;> rfl

@[simp] theorem length_decodeBlock1 (op : Byte) : (decodeBlock1 op).length = 1 := by
  revert op
  decide +kernel

section

variable (b1 b2 : Byte)

@[simp] theorem refill_of_length_one {i : Instr} (h : i.length = 1) : refill i b1 b2 = encode i := by
  rw [refill, h, List.take_of_length_le (Nat.le_of_eq h)]
  simp

@[simp] theorem refill_ldRegImm (r : Reg) (v : Byte) : refill (Form.ldRegImm r v) b1 b2 = encode (Form.ldRegImm r b1) := by
  cases r <;> rfl

@[simp] theorem refill_aluImm (op : AluOp) (v : Byte) : refill (Form.aluImm op v) b1 b2 = encode (Form.aluImm op b1) := by
  cases op <;> rfl

@[simp] theorem refill_jrCond (cc : Cond) (e : Byte) : refill (Form.jrCond cc e) b1 b2 = encode (Form.jrCond cc b1) := by
  cases cc <;> rfl

@[simp] theorem refill_ldPairImm (p : Pair) (w : Word) :
    refill (Form.ldPairImm p w) b1 b2 = encode (Form.ldPairImm p (joinBytes b2 b1)) := by
  cases p <;> simp [refill, Instr.length, Form.ldPairImm, encode]

@[simp] theorem refill_jpCond (cc : Cond) (w : Word) :
    refill (Form.jpCond cc w) b1 b2 = encode (Form.jpCond cc (joinBytes b2 b1)) := by
  cases cc <;> simp [refill, Instr.length, Form.jpCond, encode]

@[simp] theorem refill_callCond (cc : Cond) (w : Word) :
    refill (Form.callCond cc w) b1 b2 = encode (Form.callCond cc (joinBytes b2 b1)) := by
  cases cc <;> simp [refill, Instr.length, Form.callCond, encode]

end

-- In both blocks a family's cell follows by the family's lemma; the cell of a single instruction is left, and computes.

theorem encode_decodeBlock0 (op b1 b2 : Byte) : encode (decodeBlock0 op b1 b2) = refill (decodeBlock0 op 0 0) b1 b2 := by
  fun_cases decodeBlock0 op b1 b2 <;> simp_all [decodeBlock0] <;> simp [refill, Instr.length, encode]

theorem encode_decodeBlock3 (op b1 b2 : Byte) : encode (decodeBlock3 op b1 b2) = refill (decodeBlock3 op 0 0) b1 b2 := by
  fun_cases decodeBlock3 op b1 b2 <;> simp_all [decodeBlock3] <;> simp [refill, Instr.length, encode]

theorem encode_decodePrimary (op b1 b2 : Byte) : encode (decodePrimary op b1 b2) = refill (decodePrimary op 0 0) b1 b2 := by
  fun_cases decodePrimary op b1 b2 with
  | case1 h0 => simp only [decodePrimary, h0, encode_decodeBlock0]
  | case2 h1 => simp [decodePrimary, h1]
  | case3 h2 => simp [decodePrimary, h2]
  | case4 h0 h1 h2 => simp_all [decodePrimary, encode_decodeBlock3]

theorem encode_decodePrimary_zero (op : Byte) (h : op ≠ 0xCB) :
    (encode (decodePrimary op 0 0)).take 1 = [op] ∧ (decodePrimary op 0 0).length = lengthOfOpcode op := by
  revert op
  decide +kernel

/-- A decoded instruction is encoded as its first byte and as many of the next two as that byte asks for (R70, R78). -/
theorem encode_decodeBytes (op b1 b2 : Byte) :
    encode (decodeBytes op b1 b2) = op :: [b1, b2].take (lengthOfOpcode op - 1) := by
  unfold decodeBytes
  split
  · rename_i hcb
    rw [encode_decodeExtended, hcb]
    rfl
  · rename_i hcb
    obtain ⟨hop, hlen⟩ := encode_decodePrimary_zero op hcb
    rw [encode_decodePrimary, refill, hop, hlen, List.singleton_append]

theorem length_decodeBytes (op b1 b2 : Byte) : (decodeBytes op b1 b2).length = lengthOfOpcode op := by
  obtain ⟨hpos, hle⟩ := lengthOfOpcode_bounds op
  have htwo : lengthOfOpcode op - 1 ≤ [b1, b2].length := by
    rw [List.length_cons, List.length_singleton]
    omega
  rw [Instr.length, encode_decodeBytes, List.length_cons, List.length_take_of_le htwo]
  omega

/-- The dispatch-table entry of a decoded instruction (R75, R84). -/
theorem opcode_decodeBytes (op b1 b2 : Byte) :
    (decodeBytes op b1 b2).opcode = if op = 0xCB then .extended b1 else .primary op := by
  unfold Instr.opcode
  rw [encode_decodeBytes]
  split_ifs with hcb
  · rw [hcb]
    rfl
  · exact if_neg hcb

theorem Instr.wellFormed_iff {i : Instr} : i.wellFormed = true ↔ ∀ x, i = .undefined x → x ∈ undefinedOpcodes := by
  constructor
  · rintro h x rfl
    simpa [Instr.wellFormed] using h
  · intro h
    unfold Instr.wellFormed
    split
    · simpa using h _ rfl
    · rfl

theorem wellFormed_decodeBytes (op b1 b2 : Byte) : (decodeBytes op b1 b2).wellFormed = true := by
  rw [Instr.wellFormed_iff]
  intro x hx
  obtain ⟨hop, rfl⟩ := (decodeBytes_eq_undefined_iff op b1 b2 x).1 hx
  exact hop

/-- The two bytes the decoder looks at are the string's own as far as it reaches. -/
theorem take_getD_getD {bytes : List Byte} {n : Nat} (hn : n ≤ 2) (h : n ≤ bytes.length) :
    [bytes.getD 0 0, bytes.getD 1 0].take n = bytes.take n := by
  match bytes, n with
  | _, 0 => rfl
  | b :: rest, 1 => simp
  | b :: c :: rest, 2 => simp

/-- Settles O2: the decoder drops exactly the bytes that the encoder gives back. -/
theorem encodeInvertsDecode : Obligations.EncodeInvertsDecode := by
  unfold Obligations.EncodeInvertsDecode
  intro bytes i later h
  cases bytes with
  | nil => simp [decode] at h
  | cons op bytes =>
    obtain ⟨hlong, rfl, rfl⟩ := decode_cons_eq_ok_iff.1 h
    obtain ⟨hpos, hle⟩ := lengthOfOpcode_bounds op
    refine ⟨wellFormed_decodeBytes .., ?_⟩
    rw [encode_decodeBytes, take_getD_getD (by omega) (by omega), List.cons_append, List.take_append_drop]

/-! ## Lengths and sample words -/

theorem Instr.length_bounds (i : Instr) : 1 ≤ i.length ∧ i.length ≤ 3 := by
  by_cases hu : ∃ x, i = .undefined x
  · obtain ⟨x, rfl⟩ := hu
    simp [Instr.length, encode_undefined]
  · obtain ⟨op, imm, henc, hlen, -⟩ := Laws.roundTrip i (Instr.wellFormed_iff.2 fun x hx => absurd ⟨x, hx⟩ hu)
    obtain ⟨hpos, hle⟩ := lengthOfOpcode_bounds op
    rw [Instr.length, henc, List.length_cons]
    omega

/-- Settles O3: every length in it is `lengthOfOpcode` of the first byte. -/
theorem lengthFromFirstByte : Obligations.LengthFromFirstByte := by
  unfold Obligations.LengthFromFirstByte
  refine ⟨fun op b1 b2 c1 c2 => ?_, length_decodeBytes 0xCB, Instr.length_bounds, fun op bytes => ?_⟩
  · rw [length_decodeBytes, length_decodeBytes]
  · rw [exists_decode_iff, length_decodeBytes]

/-- Settles O4: the decoder computes each of the sixteen words. -/
theorem sampleWordsDecode : Obligations.SampleWordsDecode := by
  unfold Obligations.SampleWordsDecode
  and_intros <;> rfl

end Sys2Proof

/-! SUPPORT. The step that executes an instruction (spec/30_encoding.md R81 to R89): the state its body sees, its clock
cycles, and the EI delay. -/

namespace Sys2Proof.Machine

/-! ## The body leaves PC to the control transfers -/

theorem BusWrites.pc_eq {s u : State} (h : BusWrites s u) : u.pc = s.pc := by
  induction h with
  | none => rfl
  | write x v _ ih => rw [memWrite_pc, ih]

/-- Settles O27: of the effects only a register change writes PC, and it says that the instruction is a control transfer;
RETI is one. -/
theorem onlyTransfersMovePC : Obligations.OnlyTransfersMovePC := by
  unfold Obligations.OnlyTransfersMovePC
  intro i s t h hi
  cases effect_of_exec h with
  | registers hu _ _ hp => exact (hp.resolve_left hi).trans hu.pc_eq
  | reti hreti => exact absurd (by simp [isTransfer, hreti]) hi
  | di | ei | halt | stop | undefined => rfl

/-! ## Running the instruction at PC -/

theorem instrAtPC_iff {i : Instr} {s : State} : instrAtPC i s ↔ fetchInstr s = i ∧ isLeftOut s.params i = false := by
  rw [instrAtPC, exists_decode_three_iff, fetchInstr]

theorem engineStep_eq_runInstr {i : Instr} {s : State} (hs : fetchesNow s) (hi : instrAtPC i s) :
    engineStep s = runInstr i s := by
  obtain ⟨hfetch, hin⟩ := instrAtPC_iff.1 hi
  rw [engineStep_eq_fetchAndRun hs, fetchAndRun, hfetch, if_neg (by simp [hin])]

/-- A RUNNING core's instruction sees the EI delay applied and PC past it (R85, R86). -/
theorem beforeBody_of_running {i : Instr} {s : State} (hi : ∀ op, i ≠ .undefined op) (hs : s.cpu = .running) :
    beforeBody i s =
      { s with ime := s.ime || s.eiDelay, eiDelay := false, pc := s.pc + BitVec.ofNat 16 i.length } := by
  rw [beforeBody_eq hi, wake_of_not_halted (by simp [hs]), applyEiDelay_eq, advancePC]

theorem beforeBody_f (i : Instr) (s : State) : (beforeBody i s).f = s.f := by
  unfold beforeBody
  split <;> simp

/-- The report of a defined instruction whose body answers `t` (R87, R88). -/
theorem runInstr_of_exec {i : Instr} {s t : State} (hi : ∀ op, i ≠ .undefined op) (h : exec i (beforeBody i s) = .next t) :
    runInstr i s = .next ⟨.executed, 4 * spentCost i (beforeBody i s), tick (4 * spentCost i (beforeBody i s)) t⟩ := by
  unfold runInstr
  dsimp only
  rw [h]
  dsimp only
  split
  · exact absurd rfl (hi _)
  · rfl

/-- Settles O15: a fetching core runs the instruction at PC, on the state its body sees. -/
theorem stepRunsDecodedInstruction : Obligations.StepRunsDecodedInstruction := by
  unfold Obligations.StepRunsDecodedInstruction
  intro s i hs hi
  refine ⟨fun hdef => ?_, ?_⟩
  · have ⟨_, hcpu, _⟩ := hs
    obtain ⟨t, ht, -⟩ := exec_effect i (beforeBody i s)
    rw [step, engineStep_eq_runInstr hs hi, runInstr_of_exec hdef ht]
    rw [beforeBody_of_running hdef hcpu] at ht ⊢
    exact ⟨t, ht, rfl⟩
  · rintro op rfl
    rw [step, engineStep_eq_runInstr hs hi]
    rfl

/-! ## Clock cycles -/

/-- A defined instruction spends its opcode's cost, or the cost of its failed condition (R82). -/
theorem spentCost_cases {i : Instr} (hi : ∀ op, i ≠ .undefined op) (s : State) :
    spentCost i s = opcodeCost i.opcode ∨
      ∃ cc, opcodeCondition i.opcode = some cc ∧ spentCost i s = notTakenCost i.opcode := by
  unfold spentCost
  split
  · exact absurd rfl (hi _)
  · split
    · exact .inl rfl
    · rename_i cc hcc
      split_ifs
      · exact .inl rfl
      · exact .inr ⟨cc, hcc, rfl⟩

theorem spentCost_congr {s t : State} (i : Instr) (h : t.f = s.f) : spentCost i t = spentCost i s := by
  have hcond (cc : Cond) : t.cond cc = s.cond cc := by cases cc <;> simp [State.cond, h]
  simp [spentCost, hcond]

theorem opcodeCost_primary_bounds (op : Byte) (hu : op ∉ undefinedOpcodes) (hcb : op ≠ 0xCB) :
    1 ≤ opcodeCost (.primary op) ∧ opcodeCost (.primary op) ≤ 6 := by
  revert op
  decide +kernel

theorem opcodeCost_extended_bounds (xop : Byte) : 1 ≤ opcodeCost (.extended xop) ∧ opcodeCost (.extended xop) ≤ 6 := by
  unfold opcodeCost
  dsimp only
  unfold extendedCost
  split_ifs <;> decide

theorem notTakenCost_primary_bounds (op : Byte) :
    1 ≤ notTakenCost (.primary op) ∧ notTakenCost (.primary op) ≤ 6 := by
  unfold notTakenCost
  dsimp only
  split_ifs <;> decide

theorem spentCost_fetchInstr_bounds {s : State} (hdef : ∀ op, fetchInstr s ≠ .undefined op) (t : State) :
    1 ≤ spentCost (fetchInstr s) t ∧ spentCost (fetchInstr s) t ≤ 6 := by
  have hop : (fetchInstr s).opcode = _ := opcode_decodeBytes ..
  have hu : memRead s s.pc ∉ undefinedOpcodes := fun h => hdef _ ((fetchInstr_eq_undefined_iff s _).2 ⟨h, rfl⟩)
  by_cases hcb : memRead s s.pc = 0xCB
  · rw [if_pos hcb] at hop
    obtain h | ⟨cc, hcc, -⟩ := spentCost_cases hdef t
    · rw [h, hop]
      exact opcodeCost_extended_bounds _
    · rw [hop] at hcc
      cases hcc
  · rw [if_neg hcb] at hop
    obtain h | ⟨-, -, h⟩ := spentCost_cases hdef t
    · rw [h, hop]
      exact opcodeCost_primary_bounds _ hu hcb
    · rw [h, hop]
      exact notTakenCost_primary_bounds _

/-- Settles O24: each report names its cycles; an executed instruction's condition reads F alone, which nothing before the
body changes. -/
theorem stepClockCycles : Obligations.StepClockCycles := by
  unfold Obligations.StepClockCycles
  intro s r h
  obtain ⟨-, ⟨-, rfl⟩ | ⟨-, ⟨source, -, rfl⟩ | ⟨-, -, rfl⟩ | ⟨-, -, -, rfl⟩ | ⟨-, -, -, hrun⟩⟩⟩ := engineStep_cases h
  case inr.inr.inr.inr =>
    obtain ⟨t, -, hcycles, -, ⟨op, hop, hkind⟩ | ⟨hdef, hkind⟩⟩ := runInstr_next hrun
    · rw [hkind]
      rw [hcycles, hop]
      rfl
    · rw [spentCost_congr _ (beforeBody_f ..)] at hcycles
      obtain ⟨hpos, hle⟩ := spentCost_fetchInstr_bounds hdef s
      rw [hkind]
      dsimp only
      omega
  all_goals rfl

/-! ## The EI delay -/

theorem engineStep_of_serviceable {s : State} {source : IntSource} (hf : s.fault = none) (hc : s.cpu ≠ .stopped)
    (hv : serviceable s = some source) : engineStep s = .next (serviceInterrupt source (wake s)) := by
  unfold engineStep liveStep
  rw [hf, hv]
  exact if_neg hc

theorem engineStep_of_pending {s : State} (hf : s.fault = none) (hc : s.cpu ≠ .stopped) (hime : s.ime = true)
    (hp : pendingMask s ≠ 0) : ∃ source u, engineStep s = .next ⟨.serviced source, 20, u⟩ := by
  have hv : serviceable s ≠ none := fun hnone => hp (serviceable_eq_none.1 hnone hime)
  obtain ⟨source, hsource⟩ := Option.ne_none_iff_exists'.1 hv
  exact ⟨source, _, engineStep_of_serviceable hf hc hsource⟩

/-- What a report says by its kind, where the step serviced a source or executed an instruction (R89). -/
theorem engineStep_kind {s : State} {r : StepReport} (h : engineStep s = .next r) :
    (∀ source, r.kind = .serviced source → serviceable s = some source) ∧
    (r.kind = .executed → s.fault = none ∧ instrAtPC (fetchInstr s) s ∧ (∀ op, fetchInstr s ≠ .undefined op) ∧
      ∃ t n, exec (fetchInstr s) (beforeBody (fetchInstr s) s) = .next t ∧ r.after = tick n t) := by
  obtain ⟨hf, ⟨-, rfl⟩ | ⟨-, ⟨source, hv, rfl⟩ | ⟨-, -, rfl⟩ | ⟨-, -, -, rfl⟩ | ⟨-, -, hin, hrun⟩⟩⟩ := engineStep_cases h
  case inr.inr.inr.inr =>
    obtain ⟨t, ht, -, hafter, ⟨op, -, hkind⟩ | ⟨hdef, hkind⟩⟩ := runInstr_next hrun
    · rw [hkind]
      exact ⟨nofun, nofun⟩
    · rw [hkind]
      exact ⟨nofun, fun _ => ⟨hf, instrAtPC_iff.2 ⟨rfl, hin⟩, hdef, t, _, ht, hafter⟩⟩
  case inr.inl =>
    refine ⟨fun source' hk => ?_, nofun⟩
    cases hk
    exact hv
  all_goals exact ⟨nofun, nofun⟩

/-- The step that executes EI (R85, R173). -/
theorem engineStep_ei {s : State} (hs : fetchesNow s) (hi : instrAtPC .ei s) :
    engineStep s =
      .next ⟨.executed, 4, tick 4 { s with ime := s.ime || s.eiDelay, eiDelay := true, pc := s.pc + 1 }⟩ := by
  have ⟨_, hcpu, _⟩ := hs
  have hdef : ∀ op, Instr.ei ≠ .undefined op := nofun
  rw [engineStep_eq_runInstr hs hi, runInstr_of_exec hdef (Laws.exec_ei _), beforeBody_of_running hdef hcpu]
  rfl

/-- Where ei_delay is set, every instruction but DI leaves IME set (R85): only DI clears it. -/
theorem ime_after_eiDelay {s : State} {r : StepReport} (h : engineStep s = .next r) (hk : r.kind = .executed)
    (hei : s.eiDelay = true) (hdi : ¬instrAtPC .di s) : r.after.ime = true ∧ r.after.fault = none := by
  obtain ⟨hf, hi, hdef, t, n, ht, hafter⟩ := (engineStep_kind h).2 hk
  obtain ⟨hime, -, -, hfault⟩ := controlStateWriters _ _ _ ht
  simp only [beforeBody_eq hdef, advancePC_ime, applyEiDelay_ime, wake_ime, wake_eiDelay, hei, Bool.or_true] at hime
  simp only [beforeBody_eq hdef, advancePC_fault, applyEiDelay_fault, wake_fault, hf] at hfault
  rw [hafter, tick_ime, tick_fault]
  constructor
  · by_contra hclear
    obtain ⟨hfetch, -⟩ | ⟨-, hset⟩ := hime hclear
    · exact hdi (hfetch ▸ hi)
    · exact hclear hset
  · by_contra hlatched
    obtain ⟨op, hop⟩ := hfault hlatched
    exact hdef op hop

/-- Settles O23: with IME clear the step after EI services nothing, and the delay it applies leaves IME set for the step
after that. -/
theorem eiDelaysOneInstruction : Obligations.EiDelaysOneInstruction := by
  unfold Obligations.EiDelaysOneInstruction
  intro s hs hime hei hi
  refine ⟨_, engineStep_ei hs hi, by simp [hime, hei], by simp, fun r hr => ⟨fun source hk => ?_, fun hk hdi => ?_⟩⟩
  · have hv := (engineStep_kind hr).1 source hk
    simp [serviceable, hime, hei] at hv
  · obtain ⟨himeAfter, hfault⟩ := ime_after_eiDelay hr hk (by simp) hdi
    exact ⟨himeAfter, fun hp hc => engineStep_of_pending hfault hc himeAfter hp⟩

end Sys2Proof.Machine

/-! SUPPORT. 8-bit loads and stores (spec/41_load8.md R90 to R108): an instruction that answers a register write, a MemWrite, or
either followed by a move of HL, and the encodings of the family. -/

namespace Sys2Proof.Machine

/-! ## Register writes and moves of HL -/

theorem setReg_registerFrame (s : State) (r : Reg) (v : Byte) : registerFrame [r] s (s.setReg r v) :=
  registerFrame_of (by cases r <;> rfl) fun _ hq => reg_setReg_other s v (List.ne_of_not_mem_cons hq)

theorem reg_setHL_other (s : State) {q : Reg} (v : Word) (hh : q ≠ .h) (hl : q ≠ .l) : (s.setHL v).reg q = s.reg q := by
  cases q with
  | h => exact absurd rfl hh
  | l => exact absurd rfl hl
  | a | b | c | d | e => rfl

theorem setHL_sameRegsBut (s : State) (v : Word) : sameRegsBut [.h, .l] s (s.setHL v) := by
  intro q hq
  obtain ⟨hh, hl⟩ : q ≠ .h ∧ q ≠ .l := by simpa using hq
  exact reg_setHL_other s v hh hl

theorem setReg_a_setHL_sameRegsBut (s : State) (v : Byte) (w : Word) :
    sameRegsBut [.a, .h, .l] s ((s.setReg .a v).setHL w) := by
  intro q hq
  obtain ⟨ha, hhl⟩ : q ≠ .a ∧ q ∉ [Reg.h, Reg.l] := by simpa using hq
  exact (setHL_sameRegsBut _ w q hhl).trans (reg_setReg_other s v ha)

/-- The page of LDH and of LD through C (R101 to R104), as the statements write its addresses. -/
theorem highPage_eq_append (v : Byte) : highPage v = 0xFF#8 ++ v := by
  have happ : (0xFF#8 ++ v).toNat = 0xFF * 256 + v.toNat := joinBytes_toNat 0xFF v
  apply BitVec.eq_of_toNat_eq
  rw [highPage_toNat, happ]

/-! ## The answers of the family -/

section

variable {i : Instr} {s : State}

/-- An instruction whose body writes one byte register. -/
theorem exec_setReg_spec {r : Reg} {v : Byte} (h : exec i s = .next (s.setReg r v)) :
    ∃ t, exec i s = .next t ∧ t.reg r = v ∧ t.f = s.f ∧ t.sp = s.sp ∧ t.pc = s.pc ∧ registerFrame [r] s t :=
  ⟨_, h, reg_setReg_same s r v, setReg_f s r v, setReg_sp s r v, setReg_pc s r v, setReg_registerFrame s r v⟩

/-- An instruction whose body is one MemWrite. -/
theorem exec_memWrite_spec {x : Word} {v : Byte} (h : exec i s = .next (memWrite s x v)) :
    exec i s = .next (memWrite s x v) ∧ storeFrame [] [x] s (memWrite s x v) :=
  ⟨h, memWrite_storeFrame s x v⟩

/-- LD A,(HL+) and LD A,(HL-) (R105, R106). -/
theorem exec_loadAStep_spec {d : Word} (h : exec i s = loadAStep d s) :
    ∃ t, exec i s = .next t ∧ t.a = memRead s s.hl ∧ t.hl = s.hl + d ∧
      t.f = s.f ∧ t.sp = s.sp ∧ t.pc = s.pc ∧ registerFrame [.a, .h, .l] s t :=
  ⟨_, h, rfl, hl_setHL _ _, rfl, rfl, rfl, registerFrame_of rfl (setReg_a_setHL_sameRegsBut s _ _)⟩

/-- LD (HL+),A and LD (HL-),A (R107, R108). -/
theorem exec_storeAStep_spec {d : Word} (h : exec i s = storeAStep d s) :
    ∃ t, exec i s = .next t ∧ t = { memWrite s s.hl s.a with h := t.h, l := t.l } ∧ t.hl = s.hl + d ∧
      t.f = s.f ∧ t.sp = s.sp ∧ t.pc = s.pc ∧ storeFrame [.h, .l] [s.hl] s t :=
  ⟨_, h, rfl, hl_setHL _ _, memWrite_f .., memWrite_sp .., memWrite_pc ..,
    storeFrame_regs (memWrite_storeFrame s s.hl s.a) rfl (setHL_sameRegsBut _ _)⟩

end

/-! ## Encodings

The bytes of an instruction and the cell of the cost map that its first byte selects compute. -/

theorem hasEncoding_ldRegReg (dst src : Reg) :
    hasEncoding (Form.ldRegReg dst src) [opcodeXYZ 1 (Reg.code dst) (Reg.code src)] 1 := by
  cases dst <;> cases src <;> exact ⟨rfl, fun _ => rfl⟩

theorem hasEncoding_ldRegImm (dst : Reg) (v : Byte) :
    hasEncoding (Form.ldRegImm dst v) [opcodeXYZ 0 (Reg.code dst) 6, v] 2 := by
  cases dst <;> exact ⟨rfl, fun _ => rfl⟩

theorem hasEncoding_ldRegAtHL (dst : Reg) :
    hasEncoding (Form.ldRegAtHL dst) [opcodeXYZ 1 (Reg.code dst) 6] 2 := by
  cases dst <;> exact ⟨rfl, fun _ => rfl⟩

theorem hasEncoding_ldAtHLReg (src : Reg) :
    hasEncoding (Form.ldAtHLReg src) [opcodeXYZ 1 6 (Reg.code src)] 2 := by
  cases src <;> exact ⟨rfl, fun _ => rfl⟩

/-! ## The obligations -/

/-- Settles O37: each of the three forms is one register write; LD r,(HL) reads through the HL before it. -/
theorem loadRegister : Obligations.LoadRegister := by
  unfold Obligations.LoadRegister
  intro dst src v s
  exact ⟨exec_setReg_spec (Laws.exec_ldRegReg dst src s), exec_setReg_spec (Laws.exec_ldRegImm dst v s),
    exec_setReg_spec (Laws.exec_ldRegAtHL dst s),
    hasEncoding_ldRegReg dst src, hasEncoding_ldRegImm dst v, hasEncoding_ldRegAtHL dst⟩

/-- Settles O38: each form is one MemWrite, to the address its rule computes. -/
theorem storeByte : Obligations.StoreByte := by
  unfold Obligations.StoreByte
  intro src v w s
  have hldh := Laws.exec_ldh_atA8_A v s
  have hldC := Laws.exec_ld_atC_A s
  rw [highPage_eq_append] at hldh hldC
  exact ⟨exec_memWrite_spec (Laws.exec_ldAtHLReg src s), exec_memWrite_spec (Laws.exec_ld_atHL_d8 v s),
    exec_memWrite_spec (Laws.exec_ld_atBC_A s), exec_memWrite_spec (Laws.exec_ld_atDE_A s),
    exec_memWrite_spec (Laws.exec_ld_atA16_A w s), exec_memWrite_spec hldh, exec_memWrite_spec hldC,
    fun x => ⟨memWrite_f s x v, memWrite_sp s x v, memWrite_pc s x v⟩, hasEncoding_ldAtHLReg src,
    ⟨rfl, fun _ => rfl⟩, ⟨rfl, fun _ => rfl⟩, ⟨rfl, fun _ => rfl⟩, ⟨rfl, fun _ => rfl⟩, ⟨rfl, fun _ => rfl⟩,
    ⟨rfl, fun _ => rfl⟩⟩

/-- Settles O39: each form writes the byte at its address to A. -/
theorem loadAccumulator : Obligations.LoadAccumulator := by
  unfold Obligations.LoadAccumulator
  intro v w s
  refine ⟨?_, ⟨rfl, fun _ => rfl⟩, ⟨rfl, fun _ => rfl⟩, ⟨rfl, fun _ => rfl⟩, ⟨rfl, fun _ => rfl⟩, ⟨rfl, fun _ => rfl⟩⟩
  rintro i addr (⟨rfl, rfl⟩ | ⟨rfl, rfl⟩ | ⟨rfl, rfl⟩ | ⟨rfl, rfl⟩ | ⟨rfl, rfl⟩)
  · exact exec_setReg_spec (r := .a) (Laws.exec_ld_A_atBC s)
  · exact exec_setReg_spec (r := .a) (Laws.exec_ld_A_atDE s)
  · exact exec_setReg_spec (r := .a) (Laws.exec_ld_A_atA16 addr s)
  · rw [← highPage_eq_append]
    exact exec_setReg_spec (r := .a) (Laws.exec_ldh_A_atA8 v s)
  · rw [← highPage_eq_append]
    exact exec_setReg_spec (r := .a) (Laws.exec_ld_A_atC s)

/-- Settles O40: the access is at the old HL, and HL moves after it. -/
theorem loadStoreMovingHL : Obligations.LoadStoreMovingHL := by
  unfold Obligations.LoadStoreMovingHL
  intro s
  refine ⟨?_, ?_, ⟨rfl, fun _ => rfl⟩, ⟨rfl, fun _ => rfl⟩, ⟨rfl, fun _ => rfl⟩, ⟨rfl, fun _ => rfl⟩⟩
  · rintro i d (⟨rfl, rfl⟩ | ⟨rfl, rfl⟩)
    · exact exec_loadAStep_spec (Laws.exec_ld_A_atHLI s)
    · exact exec_loadAStep_spec (Laws.exec_ld_A_atHLD s)
  · rintro i d (⟨rfl, rfl⟩ | ⟨rfl, rfl⟩)
    · exact exec_storeAStep_spec (Laws.exec_ld_atHLI_A s)
    · exact exec_storeAStep_spec (Laws.exec_ld_atHLD_A s)

end Sys2Proof.Machine

/-! SUPPORT. 16-bit loads and the stack (spec/42_load16_stack.md R109 to R117): the byte registers of a pair, what a push and
a pop leave, and that a pop takes back what a push stored in plain storage. -/

namespace Sys2Proof.Machine

/-! ## The byte registers of a pair (R18) -/

/-- The byte registers a write of R16[p] changes: none for SP. -/
def Pair.byteRegs : Pair → List Reg
  | .bc => [.b, .c]
  | .de => [.d, .e]
  | .hl => [.h, .l]
  | .sp => []

/-- The byte registers a write of R16S[p] changes; the low half of AF is F. -/
def StackPair.byteRegs : StackPair → List Reg
  | .bc => [.b, .c]
  | .de => [.d, .e]
  | .hl => [.h, .l]
  | .af => [.a]

theorem setReg_setReg_sameRegsBut (s : State) (hi lo : Reg) (v w : Byte) :
    sameRegsBut [hi, lo] s ((s.setReg hi v).setReg lo w) := by
  intro q hq
  obtain ⟨hhi, hlo⟩ : q ≠ hi ∧ q ≠ lo := by simpa using hq
  exact (reg_setReg_other _ w hlo).trans (reg_setReg_other s v hhi)

theorem setPair_sameRegsBut (s : State) (p : Pair) (v : Word) : sameRegsBut (Pair.byteRegs p) s (s.setPair p v) := by
  cases p with
  | bc => exact setReg_setReg_sameRegsBut s .b .c (hiByte v) (loByte v)
  | de => exact setReg_setReg_sameRegsBut s .d .e (hiByte v) (loByte v)
  | hl => exact setHL_sameRegsBut s v
  | sp => exact fun _ _ => rfl

theorem setStackPair_sameRegsBut (s : State) (p : StackPair) (v : Word) :
    sameRegsBut (StackPair.byteRegs p) s (s.setStackPair p v) := by
  cases p with
  | bc => exact setPair_sameRegsBut s .bc v
  | de => exact setPair_sameRegsBut s .de v
  | hl => exact setPair_sameRegsBut s .hl v
  | af => exact fun _ hq => reg_setReg_other (r := .a) s (hiByte v) (List.ne_of_not_mem_cons hq)

theorem setPair_registerFrame (s : State) (p : Pair) (v : Word) : registerFrame (Pair.byteRegs p) s (s.setPair p v) :=
  registerFrame_of (by cases p <;> rfl) (setPair_sameRegsBut s p v)

/-- A pop changes the byte registers of its pair, F where the pair is AF, and SP. -/
theorem pop_registerFrame (s : State) (p : StackPair) :
    registerFrame (StackPair.byteRegs p) s ((dropTwo s).setStackPair p (popValue s)) :=
  registerFrame_of (by cases p <;> rfl) (setStackPair_sameRegsBut (dropTwo s) p (popValue s))

theorem setSP_setF_registerFrame (s : State) (sp : Word) (f : Flags) : registerFrame [] s { s with sp := sp, f := f } :=
  registerFrame_of rfl fun _ _ => rfl

/-! ## F as a byte (R17) -/

theorem toByte_lowNibble (f : Flags) : f.toByte.toNat % 16 = 0 := by
  rw [Flags.toByte, BitVec.toNat_ofNat]
  omega

@[simp] theorem ofByte_toByte (f : Flags) : Flags.ofByte f.toByte = f := by
  obtain ⟨z, n, h, c⟩ := f
  cases z <;> cases n <;> cases h <;> cases c <;> rfl

theorem toByte_ofByte (v : Byte) : (Flags.ofByte v).toByte = v &&& 0xF0 := by
  revert v
  decide +kernel

/-! ## The stack (R113, R114) -/

/-- PUSH of a pair: two MemWrites below the old SP. -/
theorem exec_push_spec (p : StackPair) (s : State) :
    ∃ t, exec (Form.push p) s = .next t ∧
      t = { memWrite (memWrite s (s.sp - 1) (hiByte (s.stackPair p))) (s.sp - 2) (loByte (s.stackPair p)) with
        sp := s.sp - 2 } ∧
      t.f = s.f ∧ t.pc = s.pc ∧ storeFrame [] [s.sp - 1, s.sp - 2] s t :=
  ⟨_, Laws.exec_push p s, push16_eq _ s, push16_f .., push16_pc .., push16_storeFrame _ s (push16 _ s).pc⟩

theorem storeReaches_of_ram_ne {p : Params} {x y : Word} {j k : Nat} (hx : busTarget p x = .ram j)
    (hy : busTarget p y = .ram k) (hne : j ≠ k) : storeReaches p x y = false := by
  simp [storeReaches, hx, hy, hne]

/-- A pop takes back what a push stored, where the two bytes are two bytes of plain storage. -/
theorem popValue_push16 (v : Word) {s : State} {j k : Nat} (hhi : busTarget s.params (s.sp - 1) = .ram j)
    (hlo : busTarget s.params (s.sp - 2) = .ram k) (hne : k ≠ j) : popValue (push16 v s) = v := by
  have hreach : storeReaches (memWrite s (s.sp - 1) (hiByte v)).params (s.sp - 2) (s.sp - 1) = false := by
    rw [memWrite_params]
    exact storeReaches_of_ram_ne hlo hhi hne
  have hsp : s.sp - 2 + 1 = s.sp - 1 := by bv_omega
  have hhigh : memRead (push16 v s) (s.sp - 1) = hiByte v := by
    rw [push16_eq]
    exact (memRead_memWrite_other _ _ hreach).trans
      (memRead_memWrite_of_readsBack _ (by rw [hhi, BusTarget.readsBack]))
  have hlow : memRead (push16 v s) (s.sp - 2) = loByte v := by
    rw [push16_eq]
    exact memRead_memWrite_of_readsBack _ (by rw [memWrite_params, hlo, BusTarget.readsBack])
  rw [popValue, push16_sp, hsp, hhigh, hlow, joinBytes_halves]

/-- Both bytes of a push are bytes of WRAM or HRAM where SP is in these ranges (R44, R50). -/
theorem busTarget_below_sp (p : Params) {sp : Word}
    (h : (0xC002 ≤ sp.toNat ∧ sp.toNat ≤ 0xE000) ∨ (0xFF82 ≤ sp.toNat ∧ sp.toNat ≤ 0xFFFF)) :
    busTarget p (sp - 1) = .ram (sp.toNat - 1) ∧ busTarget p (sp - 2) = .ram (sp.toNat - 2) := by
  have h1 : (sp - 1).toNat = sp.toNat - 1 := by bv_omega
  have h2 : (sp - 2).toNat = sp.toNat - 2 := by bv_omega
  rw [← h1, ← h2]
  obtain ⟨hlow, hhigh⟩ | ⟨hlow, hhigh⟩ := h
  · exact ⟨busTarget_wram (by omega) (by omega), busTarget_wram (by omega) (by omega)⟩
  · exact ⟨busTarget_hram (by omega) (by omega), busTarget_hram (by omega) (by omega)⟩

theorem stackPair_congr {s t : State} (p : StackPair) (hreg : ∀ r, t.reg r = s.reg r) (hf : t.f = s.f) :
    t.stackPair p = s.stackPair p := by
  cases p with
  | bc => exact congrArg₂ joinBytes (hreg .b) (hreg .c)
  | de => exact congrArg₂ joinBytes (hreg .d) (hreg .e)
  | hl => exact congrArg₂ joinBytes (hreg .h) (hreg .l)
  | af => exact congrArg₂ joinBytes (hreg .a) (congrArg Flags.toByte hf)

@[simp] theorem setStackPair_stackPair (s : State) (p : StackPair) : s.setStackPair p (s.stackPair p) = s := by
  cases p <;> simp [State.setStackPair, State.setHL, State.stackPair, State.bc, State.de, State.hl, State.af]

theorem sp_dropTwo_push16 (v : Word) (s : State) : (dropTwo (push16 v s)).sp = s.sp := by
  rw [dropTwo_sp, push16_sp, BitVec.sub_add_cancel]

/-- A pop of the pair that the push took leaves only what the push stored. -/
theorem setStackPair_dropTwo_push16 (s : State) (p : StackPair) :
    (dropTwo (push16 (s.stackPair p) s)).setStackPair p (s.stackPair p) = dropTwo (push16 (s.stackPair p) s) := by
  have hpair : (dropTwo (push16 (s.stackPair p) s)).stackPair p = s.stackPair p :=
    stackPair_congr p (push16_reg s _) (push16_f s _)
  exact (congrArg (State.setStackPair _ p) hpair.symm).trans (setStackPair_stackPair _ p)

/-! ## Encodings -/

theorem hasEncoding_ldPairImm (p : Pair) (w : Word) :
    hasEncoding (Form.ldPairImm p w) [opcodeXPQZ 0 (Pair.code p) 0 1, w.extractLsb' 0 8, w.extractLsb' 8 8] 3 := by
  cases p <;> exact ⟨rfl, fun _ => rfl⟩

theorem hasEncoding_push (p : StackPair) : hasEncoding (Form.push p) [opcodeXPQZ 3 (StackPair.code p) 0 5] 4 := by
  cases p <;> exact ⟨rfl, fun _ => rfl⟩

theorem hasEncoding_pop (p : StackPair) : hasEncoding (Form.pop p) [opcodeXPQZ 3 (StackPair.code p) 0 1] 3 := by
  cases p <;> exact ⟨rfl, fun _ => rfl⟩

/-! ## The obligations -/

/-- Settles O41: each form is one write of a pair or of SP. -/
theorem loadWord : Obligations.LoadWord := by
  unfold Obligations.LoadWord
  intro w s
  refine ⟨?_, ⟨_, Laws.exec_ldPairImm .sp w s, rfl, rfl, rfl, setPair_registerFrame s .sp w⟩,
    ⟨_, Laws.exec_ld_SP_HL s, rfl, rfl, rfl, setSP_setF_registerFrame s s.hl s.f⟩,
    fun p => hasEncoding_ldPairImm p w, ⟨rfl, fun _ => rfl⟩⟩
  intro p hi lo hp
  have hframe := setPair_registerFrame s p w
  obtain ⟨rfl, rfl, rfl⟩ | ⟨rfl, rfl, rfl⟩ | ⟨rfl, rfl, rfl⟩ := hp <;>
    exact ⟨_, Laws.exec_ldPairImm _ w s, rfl, rfl, pair_setPair s _ w, rfl, rfl, rfl, hframe⟩

/-- Settles O43: both forms answer SP plus the signed byte with its flags, one to HL and one to SP. -/
theorem stackPointerOffset : Obligations.StackPointerOffset := by
  unfold Obligations.StackPointerOffset
  intro e s
  exact ⟨⟨_, Laws.exec_ld_HL_SPr8 e s, hl_setHL s _, rfl, rfl, rfl, registerFrame_of rfl (setHL_sameRegsBut s _)⟩,
    ⟨_, Laws.exec_add_SP_r8 e s, rfl, rfl, rfl, setSP_setF_registerFrame s _ _⟩,
    ⟨rfl, fun _ => rfl⟩, ⟨rfl, fun _ => rfl⟩⟩

/-- Settles O44: a push is two MemWrites below the old SP. (The plain name is the model's own operation.) -/
theorem pushPair_spec : Obligations.PushPair := by
  unfold Obligations.PushPair
  intro p s
  refine ⟨?_, hasEncoding_push p, toByte_lowNibble s.f⟩
  have hpush := exec_push_spec p s
  cases p <;> exact hpush

/-- Settles O45: a pop writes the two bytes at SP to the halves of its pair. (The plain name is the model's own operation.) -/
theorem popPair_spec : Obligations.PopPair := by
  unfold Obligations.PopPair
  intro s lo hi
  have hhi : hiByte (popValue s) = hi := hiByte_joinBytes hi lo
  have hlo : loByte (popValue s) = lo := loByte_joinBytes hi lo
  have hf : Flags.ofByte (loByte (popValue s)) = Flags.ofByte lo := congrArg Flags.ofByte hlo
  refine ⟨?_, ⟨_, Laws.exec_pop .af s, hhi, hf, (congrArg Flags.toByte hf).trans (toByte_ofByte lo), rfl, rfl,
    pop_registerFrame s .af⟩, hasEncoding_pop⟩
  intro p rh rl hp
  have hframe := pop_registerFrame s p
  obtain ⟨rfl, rfl, rfl⟩ | ⟨rfl, rfl, rfl⟩ | ⟨rfl, rfl, rfl⟩ := hp <;>
    exact ⟨_, Laws.exec_pop _ s, hhi, hlo, rfl, rfl, rfl, hframe⟩

/-- Settles O59: in both ranges of SP the two pushed bytes are plain storage, so the pop reads them back. -/
theorem stackRoundTrip : Obligations.StackRoundTrip := by
  unfold Obligations.StackRoundTrip
  intro s t w hsp
  obtain ⟨hhi, hlo⟩ := busTarget_below_sp s.params hsp
  have hpop (v : Word) : popValue (push16 v s) = v := popValue_push16 v hhi hlo (by omega)
  refine ⟨fun hcall => ?call, fun p hpush => ?push⟩
  case call =>
    obtain rfl := Host.Outcome.next.inj ((Laws.exec_call_a16 w s).symm.trans hcall)
    exact ⟨_, Laws.exec_ret _, hpop s.pc, sp_dropTwo_push16 s.pc s⟩
  case push =>
    obtain rfl := Host.Outcome.next.inj ((Laws.exec_push p s).symm.trans hpush)
    refine ⟨_, Laws.exec_pop p _, ?_⟩
    rw [hpop, setStackPair_dropTwo_push16]
    exact ⟨sp_dropTwo_push16 _ s, push16_f s _, push16_reg s _⟩

/-- Settles O42: two MemWrites, the low byte first. -/
theorem storeStackPointer : Obligations.StoreStackPointer := by
  unfold Obligations.StoreStackPointer
  intro w s t
  exact ⟨Laws.exec_ld_atA16_SP w s, (memWrite_f ..).trans (memWrite_f ..), (memWrite_sp ..).trans (memWrite_sp ..),
    (memWrite_pc ..).trans (memWrite_pc ..), memWrite_memWrite_storeFrame s _ _ _ _,
    ⟨rfl, fun _ => rfl⟩⟩

end Sys2Proof.Machine

/-! SUPPORT. 8-bit arithmetic and logic (spec/43_alu8.md R118 to R134): what an operation of the family answers, its results
and flags as the exact values give them, and the decimal digits that DAA restores. -/

namespace Sys2Proof.Machine

/-! ## The answers of the family -/

theorem setA_setF_registerFrame (s : State) (a : Byte) (f : Flags) : registerFrame [.a] s { s with a := a, f := f } :=
  registerFrame_of rfl fun _ hq => reg_setReg_other (r := .a) s a (List.ne_of_not_mem_cons hq)

theorem setF_registerFrame (s : State) (f : Flags) : registerFrame [] s { s with f := f } :=
  setSP_setF_registerFrame s s.sp f

/-- Whatever the form of its operand, an ALU instruction is the operation on the operand's value (R118). -/
theorem exec_aluForm {op : AluOp} {i : Instr} {v : Byte} {s : State} (h : aluForm op i v s) : exec i s = aluOn op v s := by
  obtain ⟨o, rfl, rfl⟩ | rfl := h
  · exact Laws.exec_alu op o s
  · exact Laws.exec_aluImm op v s

section

variable {i : Instr} {s : State}

/-- An instruction whose body writes A and F. -/
theorem exec_setA_setF_spec {a : Byte} {f : Flags} (h : exec i s = .next { s with a := a, f := f }) :
    ∃ t, exec i s = .next t ∧ t.a = a ∧ t.f = f ∧ t.sp = s.sp ∧ t.pc = s.pc ∧ registerFrame [.a] s t :=
  ⟨_, h, rfl, rfl, rfl, rfl, setA_setF_registerFrame s a f⟩

/-- An instruction whose body writes F only. -/
theorem exec_setF_spec {f : Flags} (h : exec i s = .next { s with f := f }) :
    ∃ t, exec i s = .next t ∧ t.f = f ∧ t.sp = s.sp ∧ t.pc = s.pc ∧ registerFrame [] s t :=
  ⟨_, h, rfl, rfl, rfl, setF_registerFrame s f⟩

/-- An instruction whose body writes R8[code] and F. -/
theorem exec_writeOperand_spec {o : Operand8} {v : Byte} {f : Flags}
    (h : exec i s = .next { writeOperand o v s with f := f }) :
    ∃ t, exec i s = .next t ∧ wroteOperand o v s t ∧ t.f = f ∧ t.sp = s.sp ∧ t.pc = s.pc :=
  ⟨_, h, wroteOperand_writeOperand o v s f, rfl, writeOperand_sp o v s, writeOperand_pc o v s⟩

/-- An ALU operation that writes A. -/
theorem exec_aluForm_spec {op : AluOp} {v a : Byte} {f : Flags} (h : aluForm op i v s) (hop : op ≠ .cp)
    (hr : aluResult op s.a v s.f.c = (a, f)) :
    ∃ t, exec i s = .next t ∧ t.a = a ∧ t.f = f ∧ t.sp = s.sp ∧ t.pc = s.pc ∧ registerFrame [.a] s t :=
  exec_setA_setF_spec (by rw [exec_aluForm h, aluOn, if_neg hop, hr])

end

/-! ## Results and flags from the exact values -/

theorem addByte_toNat (a v : Byte) (carry : Bool) :
    (addByte a v carry).1.toNat = (a.toNat + v.toNat + carry.toNat) % 256 :=
  BitVec.toNat_ofNat ..

/-- ADD: the sum without a carry in (R119). -/
theorem addByte_false (a v : Byte) :
    addByte a v false = (a + v, ⟨decide (a + v = 0), false, decide (a.toNat % 16 + v.toNat % 16 > 0xF),
      decide (a.toNat + v.toNat > 0xFF)⟩) := by
  have hsum : BitVec.ofNat 8 (a.toNat + v.toNat) = a + v := by bv_omega
  simp [addByte, lowNibble, hsum]

theorem subByte_toNat (a v : Byte) (borrow : Bool) :
    ((subByte a v borrow).1.toNat : Int) = ((a.toNat : Int) - v.toNat - borrow.toNat) % 256 := by
  have hborrow : borrow.toNat < 256 := (Bool.toNat_lt borrow).trans (by decide)
  simp only [subByte, BitVec.toNat_sub, BitVec.toNat_ofNat, Nat.mod_eq_of_lt hborrow]
  omega

/-- SUB and CP: the difference without a borrow in (R121, R126). -/
theorem subByte_false (a v : Byte) :
    subByte a v false = (a - v, ⟨decide (a = v), true, decide (a.toNat % 16 < v.toNat % 16), decide (a.toNat < v.toNat)⟩) := by
  have hzero : a - v = 0#8 ↔ a = v := sub_eq_zero
  simp [subByte, lowNibble, hzero]

theorem incByte_eq (old : Byte) (f : Flags) :
    incByte old f = (old + 1, ⟨decide (old = 0xFF), false, decide (old.toNat % 16 = 0xF), f.c⟩) := by
  have hzero : decide (old + 1 = 0) = decide (old = 0xFF) := decide_eq_decide.2 (by bv_omega)
  rw [incByte, hzero]
  rfl

theorem decByte_eq (old : Byte) (f : Flags) :
    decByte old f = (old - 1, ⟨decide (old = 0x01), true, decide (old.toNat % 16 = 0x0), f.c⟩) := by
  have hzero : decide (old - 1 = 0) = decide (old = 0x01) := decide_eq_decide.2 (by bv_omega)
  rw [decByte, hzero]
  rfl

/-- CPL complements every bit (R132). -/
theorem getLsbD_xor_0xFF (v : Byte) {k : Nat} (hk : k < 8) : (v ^^^ 0xFF).getLsbD k = !v.getLsbD k := by
  have hnot : v ^^^ 0xFF = ~~~v := BitVec.xor_allOnes
  rw [hnot, BitVec.getLsbD_not, decide_eq_true hk, Bool.true_and]

/-! ## DAA (R131) -/

/-- Adding 0x60 keeps the low digit. -/
theorem lowNibble_add_0x60 (a : Byte) : lowNibble (a + 0x60) = a.toNat % 16 := by
  have hsum : (a + 0x60).toNat = (a.toNat + 0x60) % 256 := BitVec.toNat_add ..
  rw [lowNibble, hsum]
  omega

/-- After an addition each digit is corrected where its carry or the digit itself asks for it. -/
theorem daaByte_toNat_of_add {f : Flags} (a : Byte) (hn : f.n = false) :
    (daaByte a f).1.toNat = (a.toNat + (if f.c = true ∨ a.toNat > 0x99 then 0x60 else 0) +
      (if f.h = true ∨ a.toNat % 16 > 0x9 then 0x06 else 0)) % 256 := by
  simp only [daaByte, hn, Bool.false_eq_true, if_false, Bool.or_eq_true, decide_eq_true_eq]
  have hlow : lowNibble (if f.c = true ∨ a.toNat > 0x99 then a + 0x60 else a) = a.toNat % 16 := by
    rw [apply_ite lowNibble, lowNibble_add_0x60, lowNibble, ite_self]
  rw [hlow]
  have ha : a.toNat % 256 = a.toNat := Nat.mod_eq_of_lt a.isLt
  split_ifs <;> simp [BitVec.toNat_add, ha]

theorem daaByte_flags_of_add {f : Flags} (a : Byte) (hn : f.n = false) :
    (daaByte a f).2 = ⟨decide ((daaByte a f).1 = 0), false, false, decide (f.c = true ∨ a.toNat > 0x99)⟩ := by
  simp [daaByte, hn]

/-- After a subtraction the borrows alone decide. -/
theorem daaByte_toNat_of_sub {f : Flags} (a : Byte) (hn : f.n = true) :
    ((daaByte a f).1.toNat : Int) =
      ((a.toNat : Int) - (if f.c then 0x60 else 0) - (if f.h then 0x06 else 0)) % 256 := by
  obtain ⟨z, n, h, c⟩ := f
  subst hn
  cases c <;> cases h <;> simp [daaByte, BitVec.toNat_sub] <;> omega

theorem daaByte_flags_of_sub {f : Flags} (a : Byte) (hn : f.n = true) :
    (daaByte a f).2 = ⟨decide ((daaByte a f).1 = 0), true, false, f.c⟩ := by
  simp [daaByte, hn]

/-! ## Decimal digits -/

theorem bcd_toNat {n : Nat} (h : n < 100) : (bcd n).toNat = 16 * (n / 10) + n % 10 := by
  rw [bcd, BitVec.toNat_ofNat]
  omega

theorem lowNibble_bcd {n : Nat} (h : n < 100) : lowNibble (bcd n) = n % 10 := by
  rw [lowNibble, bcd_toNat h]
  omega

theorem bcd_lt_bcd {x y : Nat} (hx : x < 100) (hy : y < 100) : (bcd x).toNat < (bcd y).toNat ↔ x < y := by
  rw [bcd_toNat hx, bcd_toNat hy]
  omega

/-- The byte sum of two BCD numbers and their decimal sum have the same sums of high and of low digits. -/
theorem bcd_add_digits {x y : Nat} (hx : x < 100) (hy : y < 100) :
    ∃ high low : Nat, high ≤ 18 ∧ low ≤ 18 ∧ (bcd x).toNat % 16 + (bcd y).toNat % 16 = low ∧
      (bcd x).toNat + (bcd y).toNat = 16 * high + low ∧ x + y = 10 * high + low := by
  rw [bcd_toNat hx, bcd_toNat hy]
  exact ⟨x / 10 + y / 10, x % 10 + y % 10, by omega, by omega, by omega, by omega, by omega⟩

section

variable {x y : Nat} (hx : x < 100) (hy : y < 100)

include hx hy

/-- After ADD of two BCD numbers DAA corrects the high digit exactly where the decimal sum carries. -/
theorem addByte_bcd_high :
    (addByte (bcd x) (bcd y) false).2.c = true ∨ (addByte (bcd x) (bcd y) false).1.toNat > 0x99 ↔ x + y ≥ 100 := by
  obtain ⟨high, low, hhigh, hlow, -, hbyte, hdec⟩ := bcd_add_digits hx hy
  simp only [addByte_false, decide_eq_true_eq, BitVec.toNat_add, hbyte, hdec]
  omega

/-- DAA after ADD: the decimal sum, with its carry in C. -/
theorem daaByte_addByte_bcd :
    let sum := addByte (bcd x) (bcd y) false
    (daaByte sum.1 sum.2).1 = bcd ((x + y) % 100) ∧ (daaByte sum.1 sum.2).2.c = decide (x + y ≥ 100) ∧
      (daaByte sum.1 sum.2).2.n = false := by
  intro sum
  have hcarry := addByte_bcd_high hx hy
  rw [daaByte_flags_of_add sum.1 rfl]
  refine ⟨?_, decide_eq_decide.2 hcarry, rfl⟩
  apply BitVec.eq_of_toNat_eq
  rw [daaByte_toNat_of_add _ rfl, bcd_toNat (Nat.mod_lt _ (by decide))]
  simp only [sum, hcarry]
  obtain ⟨high, low, hhigh, hlow, hnibble, hbyte, hdec⟩ := bcd_add_digits hx hy
  simp only [addByte_false, decide_eq_true_eq, BitVec.toNat_add, hnibble, hbyte, hdec]
  split_ifs <;> omega

/-- DAA after SUB: the decimal difference, with its borrow in C. -/
theorem daaByte_subByte_bcd :
    let diff := subByte (bcd x) (bcd y) false
    (daaByte diff.1 diff.2).1 = bcd ((x + 100 - y) % 100) ∧ (daaByte diff.1 diff.2).2.c = decide (x < y) ∧
      (daaByte diff.1 diff.2).2.n = true := by
  intro diff
  have hlow : diff.2.h = decide (x % 10 < y % 10) :=
    congrArg₂ (fun m n => decide (m < n)) (lowNibble_bcd hx) (lowNibble_bcd hy)
  have hborrow : diff.2.c = decide (x < y) := decide_eq_decide.2 (bcd_lt_bcd hx hy)
  rw [daaByte_flags_of_sub diff.1 rfl]
  refine ⟨?_, hborrow, rfl⟩
  apply BitVec.eq_of_toNat_eq
  zify
  rw [daaByte_toNat_of_sub _ rfl, bcd_toNat (Nat.mod_lt _ (by decide)), subByte_toNat]
  simp only [hlow, hborrow, decide_eq_true_eq, bcd_toNat hx, bcd_toNat hy, Bool.toNat_false]
  split_ifs <;> omega

end

/-! ## Encodings -/

theorem hasEncoding_alu (op : AluOp) (o : Operand8) :
    hasEncoding (Form.alu op o) [opcodeXYZ 2 (AluOp.code op) (Operand8.code o)] (if o = .atHL then 2 else 1) := by
  cases op <;> rcases o with (_ | _ | _ | _ | _ | _ | _) | _ <;> exact ⟨rfl, fun _ => rfl⟩

theorem hasEncoding_aluImm (op : AluOp) (v : Byte) :
    hasEncoding (Form.aluImm op v) [opcodeXYZ 3 (AluOp.code op) 6, v] 2 := by
  cases op <;> exact ⟨rfl, fun _ => rfl⟩

theorem hasEncoding_inc (o : Operand8) :
    hasEncoding (Form.inc o) [opcodeXYZ 0 (Operand8.code o) 4] (if o = .atHL then 3 else 1) := by
  rcases o with (_ | _ | _ | _ | _ | _ | _) | _ <;> exact ⟨rfl, fun _ => rfl⟩

theorem hasEncoding_dec (o : Operand8) :
    hasEncoding (Form.dec o) [opcodeXYZ 0 (Operand8.code o) 5] (if o = .atHL then 3 else 1) := by
  rcases o with (_ | _ | _ | _ | _ | _ | _) | _ <;> exact ⟨rfl, fun _ => rfl⟩

/-! ## The obligations -/

/-- Settles O46: every operand form is one operation on A, and its results and flags are the exact values'. -/
theorem aluArithmetic : Obligations.AluArithmetic := by
  unfold Obligations.AluArithmetic
  refine ⟨fun i v s h => ?add, ?adc, fun i v s h => ?sub, ?sbc, fun i v s h => ?cp, fun op o v =>
    ⟨hasEncoding_alu op o, hasEncoding_aluImm op v⟩⟩
  case add => exact exec_aluForm_spec h nofun (addByte_false s.a v)
  case adc =>
    rintro i v s _ h rfl
    exact ⟨_, exec_aluForm h, addByte_toNat s.a v s.f.c, rfl, rfl, rfl, setA_setF_registerFrame s _ _⟩
  case sub => exact exec_aluForm_spec h nofun (subByte_false s.a v)
  case sbc =>
    rintro i v s _ h rfl
    exact ⟨_, exec_aluForm h, subByte_toNat s.a v s.f.c, rfl, rfl, rfl, setA_setF_registerFrame s _ _⟩
  case cp => exact exec_setF_spec (by rw [exec_aluForm h, aluOn, if_pos rfl, aluResult, subByte_false])

/-- Settles O47: the three operations are bitwise, and their flags are Z and a constant H. -/
theorem aluLogic : Obligations.AluLogic := by
  unfold Obligations.AluLogic
  rintro op i v s h (rfl | rfl | rfl)
  · exact ⟨_, exec_aluForm h, fun _ _ => BitVec.getLsbD_and, rfl, rfl, rfl, setA_setF_registerFrame s _ _⟩
  · exact ⟨_, exec_aluForm h, fun _ _ => BitVec.getLsbD_xor.trans (congrFun₂ Bool.bne_eq_xor _ _).symm, rfl, rfl, rfl,
      setA_setF_registerFrame s _ _⟩
  · exact ⟨_, exec_aluForm h, fun _ _ => BitVec.getLsbD_or, rfl, rfl, rfl, setA_setF_registerFrame s _ _⟩

/-- Settles O48: the computed byte goes to the operand and the flags come from the old one. -/
theorem incrementDecrementByte : Obligations.IncrementDecrementByte := by
  unfold Obligations.IncrementDecrementByte
  intro o s old
  refine ⟨exec_writeOperand_spec ?inc, exec_writeOperand_spec ?dec, hasEncoding_inc o, hasEncoding_dec o⟩
  case inc => rw [Laws.exec_inc, incOperand, incByte_eq]
  case dec => rw [Laws.exec_dec, decOperand, decByte_eq]

/-- Settles O49: DAA adds or subtracts its two corrections; the others change single flags. -/
theorem accumulatorAndFlagOps : Obligations.AccumulatorAndFlagOps := by
  unfold Obligations.AccumulatorAndFlagOps
  intro s
  exact ⟨⟨_, Laws.exec_daa s, fun hn => ⟨daaByte_toNat_of_add s.a hn, daaByte_flags_of_add s.a hn⟩,
      fun hn => ⟨daaByte_toNat_of_sub s.a hn, daaByte_flags_of_sub s.a hn⟩, rfl, rfl, setA_setF_registerFrame s _ _⟩,
    ⟨_, Laws.exec_cpl s, fun _ hk => getLsbD_xor_0xFF s.a hk, rfl, rfl, rfl, setA_setF_registerFrame s _ _⟩,
    exec_setF_spec (Laws.exec_scf s), exec_setF_spec (Laws.exec_ccf s),
    ⟨rfl, fun _ => rfl⟩, ⟨rfl, fun _ => rfl⟩, ⟨rfl, fun _ => rfl⟩, ⟨rfl, fun _ => rfl⟩⟩

/-- Settles O50: after ADD or SUB of BCD numbers the corrections are where the decimal digits carry or borrow. -/
theorem daaCorrectsDecimalArithmetic : Obligations.DaaCorrectsDecimalArithmetic := by
  unfold Obligations.DaaCorrectsDecimalArithmetic
  rintro x y _ i s hx hy ha rfl
  have hadd := daaByte_addByte_bcd hx hy
  have hsub := daaByte_subByte_bcd hx hy
  rw [← ha] at hadd hsub
  exact ⟨fun h => ⟨_, _, exec_aluForm h, Laws.exec_daa _, hadd⟩, fun h => ⟨_, _, exec_aluForm h, Laws.exec_daa _, hsub⟩⟩

end Sys2Proof.Machine

/-! SUPPORT. 16-bit arithmetic (spec/44_alu16.md R135 to R137): an instruction that answers a pair write, or a write of HL with
the flags of the sum. -/

namespace Sys2Proof.Machine

/-! ## The answers of the family -/

theorem setPair_sp_other (s : State) {p : Pair} (v : Word) (hp : p ≠ .sp) : (s.setPair p v).sp = s.sp := by
  cases p with
  | sp => exact absurd rfl hp
  | bc | de | hl => rfl

theorem setHL_setF_registerFrame (s : State) (v : Word) (f : Flags) :
    registerFrame [.h, .l] s { s.setHL v with f := f } :=
  registerFrame_of rfl (setHL_sameRegsBut s v)

theorem addWord_eq (x y : Word) (f : Flags) :
    addWord x y f = (x + y, ⟨f.z, false, decide (x.toNat % 0x1000 + y.toNat % 0x1000 > 0xFFF),
      decide (x.toNat + y.toNat > 0xFFFF)⟩) := by
  rw [BitVec.add_def, addWord]

section

variable {i : Instr} {s : State}

/-- An instruction whose body writes one pair. -/
theorem exec_setPair_spec {p : Pair} {v : Word} (h : exec i s = .next (s.setPair p v)) :
    ∃ t, exec i s = .next t ∧ t.pair p = v ∧ t.f = s.f ∧ (p ≠ .sp → t.sp = s.sp) ∧ t.pc = s.pc ∧
      registerFrame (Pair.byteRegs p) s t :=
  ⟨_, h, pair_setPair s p v, setPair_f s p v, setPair_sp_other s v, setPair_pc s p v, setPair_registerFrame s p v⟩

/-- An instruction whose body writes HL and F. -/
theorem exec_setHL_setF_spec {v : Word} {f : Flags} (h : exec i s = .next { s.setHL v with f := f }) :
    ∃ t, exec i s = .next t ∧ t.hl = v ∧ t.f = f ∧ t.sp = s.sp ∧ t.pc = s.pc ∧ registerFrame [.h, .l] s t :=
  ⟨_, h, hl_setHL s v, rfl, rfl, rfl, setHL_setF_registerFrame s v f⟩

end

/-! ## Encodings -/

theorem hasEncoding_addHL (p : Pair) : hasEncoding (Form.addHL p) [opcodeXPQZ 0 (Pair.code p) 1 1] 2 := by
  cases p <;> exact ⟨rfl, fun _ => rfl⟩

theorem hasEncoding_incPair (p : Pair) : hasEncoding (Form.incPair p) [opcodeXPQZ 0 (Pair.code p) 0 3] 2 := by
  cases p <;> exact ⟨rfl, fun _ => rfl⟩

theorem hasEncoding_decPair (p : Pair) : hasEncoding (Form.decPair p) [opcodeXPQZ 0 (Pair.code p) 1 3] 2 := by
  cases p <;> exact ⟨rfl, fun _ => rfl⟩

/-! ## The obligation -/

/-- Settles O51: ADD HL,rr writes HL and F from the word sum; INC rr and DEC rr are one pair write each. -/
theorem wordArithmetic : Obligations.WordArithmetic := by
  unfold Obligations.WordArithmetic
  intro p s half
  have hhalf : half = Pair.byteRegs p := by cases p <;> rfl
  rw [hhalf]
  refine ⟨exec_setHL_setF_spec ?add, exec_setPair_spec (Laws.exec_incPair p s), exec_setPair_spec (Laws.exec_decPair p s),
    hasEncoding_addHL p, hasEncoding_incPair p, hasEncoding_decPair p⟩
  case add => rw [Laws.exec_addHL, addToHL, addWord_eq]

end Sys2Proof.Machine

/-! SUPPORT. Rotates and shifts (spec/45_rotate_shift.md R140 to R152): a byte shifted by one place with a given bit shifted in,
as arithmetic on its value, and the rotations of the library as such shifts. -/

namespace Sys2Proof.Machine

/-! ## A shift by one place with a bit shifted in -/

theorem toNat_getLsbD (v : Byte) (k : Nat) : (v.getLsbD k).toNat = v.toNat / 2 ^ k % 2 :=
  Nat.toNat_testBit ..

theorem shiftLeftIn_toNat (v : Byte) (low : Bool) : (shiftLeftIn v low).toNat = (v.toNat * 2 + low.toNat) % 256 := by
  have hlow : low.toNat < 2 := Bool.toNat_lt low
  have hshift : v.toNat <<< 1 % 2 ^ 8 = 2 ^ 1 * (v.toNat % 128) := by omega
  have hbit : low.toNat % 2 ^ 8 = low.toNat := by omega
  rw [shiftLeftIn, BitVec.toNat_or, BitVec.toNat_shiftLeft, BitVec.toNat_ofNat, hshift, hbit,
    ← Nat.two_pow_add_eq_or_of_lt hlow]
  omega

theorem shiftRightIn_toNat (v : Byte) (high : Bool) : (shiftRightIn v high).toNat = v.toNat / 2 + 128 * high.toNat := by
  have hhigh : high.toNat < 2 := Bool.toNat_lt high
  have hlow : v.toNat / 2 < 2 ^ 7 := by omega
  have hbit : high.toNat * 0x80 % 2 ^ 8 = 2 ^ 7 * high.toNat := by omega
  rw [shiftRightIn, BitVec.toNat_or, BitVec.toNat_ushiftRight, BitVec.toNat_ofNat, Nat.shiftRight_one, hbit, Nat.or_comm,
    ← Nat.two_pow_add_eq_or_of_lt hlow, Nat.add_comm]

/-- RL and, with a zero shifted in, SLA. -/
theorem shiftLeftIn_eq_ofNat (v : Byte) (low : Bool) : shiftLeftIn v low = BitVec.ofNat 8 (v.toNat * 2 + low.toNat) :=
  BitVec.eq_of_toNat_eq (shiftLeftIn_toNat v low)

/-- RR and, with a zero shifted in, SRL. -/
theorem shiftRightIn_eq_ofNat (v : Byte) (high : Bool) :
    shiftRightIn v high = BitVec.ofNat 8 (v.toNat / 2 + 128 * high.toNat) := by
  rw [← shiftRightIn_toNat, BitVec.ofNat_toNat, BitVec.setWidth_eq]

/-- A left rotation shifts the highest bit back in (R145). -/
theorem shiftLeftIn_highest (v : Byte) : shiftLeftIn v (v.getLsbD 7) = v.rotateLeft 1 := by
  have hbit : BitVec.ofNat 8 (v.getLsbD 7).toNat = v >>> 7 := by
    apply BitVec.eq_of_toNat_eq
    rw [BitVec.toNat_ofNat, toNat_getLsbD, BitVec.toNat_ushiftRight]
    omega
  rw [shiftLeftIn, hbit, BitVec.rotateLeft_def]

/-- A right rotation shifts the lowest bit back in (R146). -/
theorem shiftRightIn_lowest (v : Byte) : shiftRightIn v (v.getLsbD 0) = v.rotateRight 1 := by
  have hbit : BitVec.ofNat 8 ((v.getLsbD 0).toNat * 0x80) = v <<< 7 := by
    apply BitVec.eq_of_toNat_eq
    rw [BitVec.toNat_ofNat, toNat_getLsbD, BitVec.toNat_shiftLeft]
    omega
  rw [shiftRightIn, hbit, BitVec.rotateRight_def]

/-- An arithmetic right shift keeps the sign bit (R150). -/
theorem shiftRightIn_highest (v : Byte) : shiftRightIn v (v.getLsbD 7) = v.sshiftRight 1 := by
  apply BitVec.eq_of_toNat_eq
  rw [shiftRightIn_toNat, toNat_getLsbD, BitVec.toNat_sshiftRight, BitVec.msb_eq_decide]
  simp only [decide_eq_true_eq]
  split_ifs <;> omega

/-! ## Encodings -/

theorem hasEncoding_shift (op : ShiftOp) (o : Operand8) :
    hasEncoding (Form.shift op o) [0xCB, opcodeXYZ 0 (ShiftOp.code op) (Operand8.code o)] (if o = .atHL then 4 else 2) := by
  cases op <;> rcases o with (_ | _ | _ | _ | _ | _ | _) | _ <;> exact ⟨rfl, fun _ => rfl⟩

/-! ## The obligations -/

/-- Settles O53: the operand's byte is shifted with the bit the operation puts in, and the answer is one operand write with
the flags of the result. -/
theorem rotateShiftOperand : Obligations.RotateShiftOperand := by
  unfold Obligations.RotateShiftOperand
  intro op o s v result carry
  have hshift : shiftByte op v s.f.c = (result, carry) := by
    cases op with
    | rlc => exact congrArg (·, carry) (shiftLeftIn_highest v)
    | rrc => exact congrArg (·, carry) (shiftRightIn_lowest v)
    | rl => exact congrArg (·, carry) (shiftLeftIn_eq_ofNat v s.f.c)
    | rr => exact congrArg (·, carry) (shiftRightIn_eq_ofNat v s.f.c)
    | sla => exact congrArg (·, carry) (shiftLeftIn_eq_ofNat v false)
    | sra => exact congrArg (·, carry) (shiftRightIn_highest v)
    | swap => rfl
    | srl => exact congrArg (·, carry) (shiftRightIn_eq_ofNat v false)
  refine ⟨exec_writeOperand_spec ?_, hasEncoding_shift op o⟩
  rw [Laws.exec_shift, shiftOperand, shiftResult, hshift]

/-- Settles O52: the rotations are those of the 0xCB group on A, with Z cleared. -/
theorem rotateAccumulator : Obligations.RotateAccumulator := by
  unfold Obligations.RotateAccumulator
  intro s
  refine ⟨⟨_, Laws.exec_rlca s, shiftLeftIn_highest s.a, ?_⟩, ⟨_, Laws.exec_rrca s, shiftRightIn_lowest s.a, ?_⟩,
    ⟨_, Laws.exec_rla s, shiftLeftIn_toNat s.a s.f.c, ?_⟩, ⟨_, Laws.exec_rra s, shiftRightIn_toNat s.a s.f.c, ?_⟩,
    ⟨rfl, fun _ => rfl⟩, ⟨rfl, fun _ => rfl⟩, ⟨rfl, fun _ => rfl⟩, ⟨rfl, fun _ => rfl⟩⟩
  all_goals exact ⟨rfl, rfl, rfl, setA_setF_registerFrame s _ _⟩

end Sys2Proof.Machine

/-! SUPPORT. Single bits (spec/46_bit.md R153 to R155): the mask of one bit, and what clearing and setting it leave of a byte. -/

namespace Sys2Proof.Machine

/-! ## The bits of the results -/

theorem getLsbD_bitMask (bit : Fin 8) (k : Nat) : ((1#8) <<< bit.val).getLsbD k = decide (bit.val = k) := by
  rw [← BitVec.twoPow_eq, BitVec.getLsbD_twoPow, decide_eq_true bit.isLt, Bool.true_and]

theorem getLsbD_clearBit (bit : Fin 8) (v : Byte) {k : Nat} (hk : k < 8) :
    (clearBit bit v).getLsbD k = (v.getLsbD k && decide (k ≠ bit.val)) := by
  rw [clearBit, BitVec.getLsbD_and, BitVec.getLsbD_not, getLsbD_bitMask, decide_eq_true hk, Bool.true_and, ← decide_not,
    decide_eq_decide.2 ne_comm]

theorem getLsbD_setBit (bit : Fin 8) (v : Byte) (k : Nat) :
    (setBit bit v).getLsbD k = (v.getLsbD k || decide (k = bit.val)) := by
  rw [setBit, BitVec.getLsbD_or, getLsbD_bitMask, decide_eq_decide.2 eq_comm]

/-! ## The answer of RES and SET -/

/-- An instruction whose body writes R8[code] and no flag; `P` is what is known of the byte written. -/
theorem exec_writeOperand_keepsFlags_spec {i : Instr} {o : Operand8} {v : Byte} {s : State} {P : Byte → Prop}
    (h : exec i s = .next (writeOperand o v s)) (hv : P v) :
    ∃ t w, exec i s = .next t ∧ wroteOperand o w s t ∧ P w ∧ t.f = s.f ∧ t.sp = s.sp ∧ t.pc = s.pc :=
  ⟨_, v, h, wroteOperand_writeOperand o v s (writeOperand o v s).f, hv, writeOperand_f o v s, writeOperand_sp o v s,
    writeOperand_pc o v s⟩

/-! ## Encodings -/

theorem hasEncoding_bit (bit : Fin 8) (o : Operand8) :
    hasEncoding (Form.bit bit o) [0xCB, opcodeXYZ 1 (BitVec.ofNat 3 bit) (Operand8.code o)] (if o = .atHL then 3 else 2) := by
  fin_cases bit <;> rcases o with (_ | _ | _ | _ | _ | _ | _) | _ <;> exact ⟨rfl, fun _ => rfl⟩

theorem hasEncoding_res (bit : Fin 8) (o : Operand8) :
    hasEncoding (Form.res bit o) [0xCB, opcodeXYZ 2 (BitVec.ofNat 3 bit) (Operand8.code o)] (if o = .atHL then 4 else 2) := by
  fin_cases bit <;> rcases o with (_ | _ | _ | _ | _ | _ | _) | _ <;> exact ⟨rfl, fun _ => rfl⟩

theorem hasEncoding_set (bit : Fin 8) (o : Operand8) :
    hasEncoding (Form.set bit o) [0xCB, opcodeXYZ 3 (BitVec.ofNat 3 bit) (Operand8.code o)] (if o = .atHL then 4 else 2) := by
  fin_cases bit <;> rcases o with (_ | _ | _ | _ | _ | _ | _) | _ <;> exact ⟨rfl, fun _ => rfl⟩

/-! ## The obligations -/

/-- Settles O55: each is one operand write, of the byte with the mask of bit b cleared or set in it. -/
theorem resetAndSetBit : Obligations.ResetAndSetBit := by
  unfold Obligations.ResetAndSetBit
  intro b o s
  exact ⟨exec_writeOperand_keepsFlags_spec (Laws.exec_res b o s) fun _ hk => getLsbD_clearBit b (readOperand o s) hk,
    exec_writeOperand_keepsFlags_spec (Laws.exec_set b o s) fun k _ => getLsbD_setBit b (readOperand o s) k,
    hasEncoding_res b o, hasEncoding_set b o⟩

/-- Settles O54: the answer is the state with new flags alone (`testBit` is the name of the model's operation). -/
theorem testBit_spec : Obligations.TestBit := by
  unfold Obligations.TestBit
  intro b o s
  exact ⟨exec_setF_spec (Laws.exec_bit b o s), hasEncoding_bit b o⟩

end Sys2Proof.Machine

/-! SUPPORT. Control transfer (spec/47_control.md R156 to R167): what a jump, a call and a return answer, and what the
conditional forms are when their condition holds and when it fails. -/

namespace Sys2Proof.Machine

/-! ## The conditional forms by their condition (R156) -/

/-- A conditional jump always goes somewhere: to its target, or on to the next instruction. -/
theorem jumpIf_eq_jumpTo (cc : Cond) (target : Word) (s : State) :
    jumpIf cc target s = jumpTo (if s.cond cc then target else s.pc) s := by
  unfold jumpIf jumpTo
  split <;> rfl

section

variable {cc : Cond} {s : State}

theorem callIf_of_cond (w : Word) (h : s.cond cc = true) : callIf cc w s = callTo w s :=
  congrArg Host.Outcome.next (if_pos h)

theorem callIf_of_not_cond (w : Word) (h : s.cond cc = false) : callIf cc w s = .next s :=
  congrArg Host.Outcome.next (if_neg (Bool.eq_false_iff.1 h))

theorem returnIf_of_cond (h : s.cond cc = true) : returnIf cc s = returnTo s :=
  congrArg Host.Outcome.next (if_pos h)

theorem returnIf_of_not_cond (h : s.cond cc = false) : returnIf cc s = .next s :=
  congrArg Host.Outcome.next (if_neg (Bool.eq_false_iff.1 h))

end

/-! ## The answers of the family -/

theorem setSP_setPC_registerFrame (s : State) (sp pc : Word) : registerFrame [] s { s with sp := sp, pc := pc } :=
  registerFrame_of rfl fun _ _ => rfl

section

variable {i : Instr} {s : State}

/-- A jump writes PC only. -/
theorem exec_jumpTo_spec {target : Word} (h : exec i s = jumpTo target s) :
    ∃ t, exec i s = .next t ∧ t.pc = target ∧ t.f = s.f ∧ t.sp = s.sp ∧ registerFrame [] s t :=
  ⟨_, h, rfl, rfl, rfl, setSP_setPC_registerFrame s s.sp target⟩

/-- A call is two MemWrites of the halves of PC below the old SP, and a write of SP and PC. -/
theorem exec_callTo_spec {target : Word} (h : exec i s = callTo target s) :
    ∃ t, exec i s = .next t ∧
      t = { memWrite (memWrite s (s.sp - 1) (hiByte s.pc)) (s.sp - 2) (loByte s.pc) with sp := s.sp - 2, pc := target } ∧
      t.f = s.f ∧ storeFrame [] [s.sp - 1, s.sp - 2] s t :=
  ⟨_, h, congrArg (fun u : State => { u with pc := target }) (push16_eq s.pc s), push16_f s s.pc,
    push16_storeFrame s.pc s target⟩

/-- A return writes PC and SP only. -/
theorem exec_returnTo_spec (h : exec i s = returnTo s) :
    ∃ t, exec i s = .next t ∧ t.pc = popValue s ∧ t.sp = s.sp + 2 ∧ t.f = s.f ∧ registerFrame [] s t :=
  ⟨_, h, rfl, rfl, rfl, setSP_setPC_registerFrame s (s.sp + 2) (popValue s)⟩

end

/-! ## Encodings -/

theorem hasCondEncoding_jpCond (cc : Cond) (w : Word) :
    hasCondEncoding (Form.jpCond cc w) cc
      [0b11#2 ++ 0b0#1 ++ Cond.code cc ++ 0b010#3, w.extractLsb' 0 8, w.extractLsb' 8 8] 4 3 := by
  cases cc <;> exact ⟨rfl, fun _ => rfl⟩

theorem hasCondEncoding_jrCond (cc : Cond) (e : Byte) :
    hasCondEncoding (Form.jrCond cc e) cc [0b00#2 ++ 0b1#1 ++ Cond.code cc ++ 0b000#3, e] 3 2 := by
  cases cc <;> exact ⟨rfl, fun _ => rfl⟩

theorem hasCondEncoding_callCond (cc : Cond) (w : Word) :
    hasCondEncoding (Form.callCond cc w) cc
      [0b11#2 ++ 0b0#1 ++ Cond.code cc ++ 0b100#3, w.extractLsb' 0 8, w.extractLsb' 8 8] 6 3 := by
  cases cc <;> exact ⟨rfl, fun _ => rfl⟩

theorem hasCondEncoding_retCond (cc : Cond) :
    hasCondEncoding (Form.retCond cc) cc [0b11#2 ++ 0b0#1 ++ Cond.code cc ++ 0b000#3] 5 2 := by
  cases cc <;> exact ⟨rfl, fun _ => rfl⟩

theorem hasEncoding_rst (n : Fin 8) : hasEncoding (Form.rst n) [opcodeXYZ 3 (BitVec.ofNat 3 n) 7] 4 := by
  fin_cases n <;> exact ⟨rfl, fun _ => rfl⟩

/-! ## The obligations -/

/-- Settles O56: every form is a jump, the conditional ones to the next instruction where their condition fails. -/
theorem jumps : Obligations.Jumps := by
  unfold Obligations.Jumps
  intro cc w e s holds
  have hcond : holds = s.cond cc := by cases cc <;> rfl
  refine ⟨?_, ⟨rfl, fun _ => rfl⟩, ⟨rfl, fun _ => rfl⟩, ⟨rfl, fun _ => rfl⟩, hasCondEncoding_jpCond cc w,
    hasCondEncoding_jrCond cc e⟩
  rw [hcond]
  rintro i target (⟨rfl, rfl⟩ | ⟨rfl, rfl⟩ | ⟨rfl, rfl⟩ | ⟨rfl, rfl⟩ | ⟨rfl, rfl⟩)
  · exact exec_jumpTo_spec (Laws.exec_jp_a16 target s)
  · exact exec_jumpTo_spec (Laws.exec_jp_HL s)
  · exact exec_jumpTo_spec (Laws.exec_jr_r8 e s)
  · exact exec_jumpTo_spec ((Laws.exec_jpCond cc w s).trans (jumpIf_eq_jumpTo cc w s))
  · exact exec_jumpTo_spec ((Laws.exec_jrCond cc e s).trans (jumpIf_eq_jumpTo cc _ s))

/-- Settles O57: every form is a push of PC and a jump, but for a CALL cc whose condition fails. -/
theorem calls : Obligations.Calls := by
  unfold Obligations.Calls
  intro cc n w s stored
  refine ⟨?_, fun hfails => (Laws.exec_callCond cc w s).trans (callIf_of_not_cond w hfails), ⟨rfl, fun _ => rfl⟩,
    hasEncoding_rst n, hasCondEncoding_callCond cc w⟩
  rintro i target (⟨rfl, rfl⟩ | ⟨rfl, rfl⟩ | ⟨rfl, hholds, rfl⟩)
  · exact exec_callTo_spec (Laws.exec_call_a16 target s)
  · exact exec_callTo_spec (Laws.exec_rst n s)
  · exact exec_callTo_spec ((Laws.exec_callCond cc target s).trans (callIf_of_cond target hholds))

/-- Settles O58: every form pops PC, but for a RET cc whose condition fails; RETI is RET and a write of IME. -/
theorem returns : Obligations.Returns := by
  unfold Obligations.Returns
  intro cc s target
  refine ⟨?_, ⟨_, Laws.exec_reti s, rfl, rfl, rfl, rfl, setSP_setPC_registerFrame s (s.sp + 2) (popValue s)⟩,
    fun hfails => (Laws.exec_retCond cc s).trans (returnIf_of_not_cond hfails), ⟨rfl, fun _ => rfl⟩,
    ⟨rfl, fun _ => rfl⟩, hasCondEncoding_retCond cc⟩
  rintro i (rfl | ⟨rfl, hholds⟩)
  · exact exec_returnTo_spec (Laws.exec_ret s)
  · exact exec_returnTo_spec ((Laws.exec_retCond cc s).trans (returnIf_of_cond hholds))

end Sys2Proof.Machine

/-! SUPPORT. The timer over several clock cycles (spec/60_exceptions.md R191 to R197): what a run of cycles without a clock of
TIMA leaves (`tick_of_quiet`), and the one cycle that ends a delay or a period. -/

namespace Sys2Proof.Machine

/-! ## One clock cycle -/

/-- Whether the clock cycle that advances the divider from `d` clocks TIMA (R194). -/
def clocksTima (s : State) (d : Word) : Bool := timerEnabled s && fallingEdge s d

theorem countDivider_eq (s : State) :
    countDivider s =
      if clocksTima s s.div16 then incrementTima { s with div16 := s.div16 + 1 } else { s with div16 := s.div16 + 1 } :=
  rfl

@[simp] theorem countDivider_div16 (s : State) : (countDivider s).div16 = s.div16 + 1 := by
  rw [countDivider_eq]
  split_ifs <;> simp

@[simp] theorem tick1_div16 (s : State) : (tick1 s).div16 = s.div16 + 1 := by simp [tick1]

/-- Before the last cycle of the delay, and with no reload pending, only the counter moves (R192). -/
theorem countReload_of_ne_one {s : State} (h : s.reloadPending ≠ 1) :
    countReload s = { s with reloadPending := s.reloadPending - 1 } := by
  unfold countReload
  split_ifs with h0
  · rw [h0]
    exact congrArg (fun n => { s with reloadPending := n }) h0
  · rfl

/-- A cycle that neither clocks TIMA nor ends the delay. -/
theorem tick1_of_quiet {s : State} (hr : s.reloadPending ≠ 1) (hq : clocksTima s s.div16 = false) :
    tick1 s = { s with div16 := s.div16 + 1, reloadPending := s.reloadPending - 1 } := by
  rw [tick1, countReload_of_ne_one hr, countDivider_eq]
  exact if_neg (Bool.eq_false_iff.1 hq)

/-- A cycle that clocks TIMA below its maximum, with no reload pending. -/
theorem tick1_of_increment {s : State} (hr : s.reloadPending = 0) (hq : clocksTima s s.div16 = true) (ht : s.tima ≠ 0xFF) :
    tick1 s = { s with div16 := s.div16 + 1, tima := s.tima + 1 } := by
  rw [tick1, countReload, if_pos hr, countDivider_eq, if_pos hq]
  exact if_neg ht

/-- A cycle in which TIMA overflows (R195). -/
theorem tick1_of_overflow {s : State} (hr : s.reloadPending = 0) (hq : clocksTima s s.div16 = true) (ht : s.tima = 0xFF) :
    tick1 s = { s with div16 := s.div16 + 1, tima := 0x00, reloadPending := s.params.timerReloadDelay } := by
  rw [tick1, countReload, if_pos hr, countDivider_eq, if_pos hq]
  exact if_pos ht

/-- The last cycle of the delay (R192). -/
theorem tick1_of_reload {s : State} (hr : s.reloadPending = 1) (hq : clocksTima s s.div16 = false) :
    tick1 s = requestInterrupt .timer { s with div16 := s.div16 + 1, tima := s.tma, reloadPending := 0 } := by
  rw [tick1, countReload, if_neg (by omega), if_pos hr, countDivider_eq]
  exact if_neg (Bool.eq_false_iff.1 hq)

/-! ## Several clock cycles -/

theorem tick_add (m n : Nat) (s : State) : tick (m + n) s = tick n (tick m s) := by
  induction m generalizing s with
  | zero => rw [Nat.zero_add, tick]
  | succ m ih => rw [Nat.succ_add, tick, ih, tick]

theorem tick_one (s : State) : tick 1 s = tick1 s := rfl

theorem add_ofNat_succ (d : Word) (n : Nat) : d + BitVec.ofNat 16 (n + 1) = d + BitVec.ofNat 16 n + 1 := by
  rw [BitVec.ofNat_add, BitVec.add_assoc]
  rfl

theorem tick_div16 (n : Nat) (s : State) : (tick n s).div16 = s.div16 + BitVec.ofNat 16 n := by
  induction n with
  | zero => simp [tick]
  | succ n ih => rw [tick_add, tick_one, tick1_div16, ih, add_ofNat_succ]

/-- `t` differs from `s` in the fields a clock cycle can write only. -/
def onlyTimerTicked (s t : State) : Prop :=
  t = { s with div16 := t.div16, tima := t.tima, reloadPending := t.reloadPending, ifl := t.ifl }

theorem onlyTimerTicked.trans {s u t : State} (h₁ : onlyTimerTicked s u) (h₂ : onlyTimerTicked u t) :
    onlyTimerTicked s t := by
  unfold onlyTimerTicked at h₁ h₂
  rw [h₁] at h₂
  exact h₂

theorem countReload_onlyTimerTicked (s : State) : onlyTimerTicked s (countReload s) := by
  unfold countReload
  split_ifs <;> rfl

theorem countDivider_onlyTimerTicked (s : State) : onlyTimerTicked s (countDivider s) := by
  rw [countDivider_eq]
  unfold incrementTima
  split_ifs <;> rfl

theorem tick_onlyTimerTicked (n : Nat) (s : State) : onlyTimerTicked s (tick n s) := by
  induction n generalizing s with
  | zero => rfl
  | succ n ih => exact ((countReload_onlyTimerTicked s).trans (countDivider_onlyTimerTicked _)).trans (ih _)

/-- Settles O29: a clock cycle counts the divider by one, and writes nothing beside the four fields. -/
theorem dividerCountsEveryCycle : Obligations.DividerCountsEveryCycle := by
  unfold Obligations.DividerCountsEveryCycle
  exact fun n s => ⟨tick_div16 n s, tick_onlyTimerTicked n s⟩

/-- Clock cycles none of which clocks TIMA or ends a delay: the divider counts up, and a pending reload down. -/
theorem tick_of_quiet {n : Nat} {s : State} (hr : s.reloadPending = 0 ∨ n < s.reloadPending)
    (hq : ∀ k < n, clocksTima s (s.div16 + BitVec.ofNat 16 k) = false) :
    tick n s = { s with div16 := s.div16 + BitVec.ofNat 16 n, reloadPending := s.reloadPending - n } := by
  induction n with
  | zero => simp [tick]
  | succ n ih =>
    have hn := ih (by omega) fun k hk => hq k (by omega)
    rw [tick_add, hn, tick_one, tick1_of_quiet (by dsimp only; omega) (hq n (by omega)), add_ofNat_succ, ← Nat.sub_sub]

/-! ## The divider's phase -/

theorem clocksTima_of_not_enabled {s : State} (h : s.tac.getLsbD 2 = false) (d : Word) : clocksTima s d = false := by
  rw [clocksTima, timerEnabled, h, Bool.false_and]

theorem add_ofNat_mod (d : Word) (k : Nat) {m : Nat} (hm : m ∣ 65536) :
    (d + BitVec.ofNat 16 k).toNat % m = (d.toNat + k) % m := by
  rw [BitVec.toNat_add, BitVec.toNat_ofNat, Nat.add_mod_mod, Nat.mod_mod_of_dvd _ hm]

/-- No clock of TIMA while the divider's low four bits do not carry (R194). -/
theorem clocksTima_of_low_nibble {s : State} {d : Word} (h : d.toNat % 16 ≠ 15) : clocksTima s d = false := by
  rw [clocksTima, Bool.and_eq_false_iff]
  exact .inr (Bool.eq_false_iff.2 fun hedge => h (low_nibble_of_fallingEdge hedge))

/-- The selected bit falls where it and every bit below it are set. -/
theorem fallingEdge_iff (s : State) (d : Word) :
    fallingEdge s d = true ↔
      d.toNat % 2 ^ (selectedBit (clockSelect s) + 1) = 2 ^ (selectedBit (clockSelect s) + 1) - 1 := by
  have hlt := d.isLt
  unfold fallingEdge selectedBit
  simp only [Bool.and_eq_true, Bool.not_eq_true', BitVec.getLsbD, BitVec.toNat_add, Nat.testBit_eq_decide_div_mod_eq,
    decide_eq_true_eq, decide_eq_false_iff_not]
  -- the four clock selects
  split <;> simp <;> omega

/-- The clock cycles from one clock of TIMA to the next (R194). -/
def clockPeriod (s : State) : Nat := 2 ^ (selectedBit (clockSelect s) + 1)

theorem clockPeriod_dvd (s : State) : clockPeriod s ∣ 65536 := by
  unfold clockPeriod selectedBit
  split <;> decide

theorem clocksTima_iff {s : State} (h : s.tac.getLsbD 2 = true) (d : Word) :
    clocksTima s d = true ↔ d.toNat % clockPeriod s = clockPeriod s - 1 := by
  rw [clocksTima, timerEnabled, h, Bool.true_and, fallingEdge_iff, clockPeriod]

/-- No clock of TIMA in cycles that end within the period. -/
theorem quiet_of_phase {s : State} {d : Word} {n : Nat} (h : s.tac.getLsbD 2 = true)
    (hn : d.toNat % clockPeriod s + n < clockPeriod s) : ∀ k < n, clocksTima s (d + BitVec.ofNat 16 k) = false := by
  intro k hk
  rw [Bool.eq_false_iff, ne_eq, clocksTima_iff h, add_ofNat_mod d k (clockPeriod_dvd s), ← Nat.mod_add_mod,
    Nat.mod_eq_of_lt (by omega)]
  omega

/-- No clock of TIMA in cycles that end before the low four bits carry, whatever the clock select. -/
theorem quiet_of_low_nibble {s : State} {d : Word} {n : Nat} (hn : d.toNat % 16 + n ≤ 15) :
    ∀ k < n, clocksTima s (d + BitVec.ofNat 16 k) = false := by
  intro k hk
  apply clocksTima_of_low_nibble
  rw [add_ofNat_mod d k (by decide)]
  omega

/-- With no reload pending and no clock of TIMA only the divider moves. -/
theorem tick_of_idle {n : Nat} {s : State} (hr : s.reloadPending = 0)
    (hq : ∀ k < n, clocksTima s (s.div16 + BitVec.ofNat 16 k) = false) :
    tick n s = { s with div16 := s.div16 + BitVec.ofNat 16 n } := by
  rw [tick_of_quiet (.inl hr) hq]
  simp [hr]

/-- A whole period: idle cycles up to the falling edge, the cycle that clocks TIMA, and idle cycles back to the phase the
period began in. -/
theorem tick_clockPeriod {s : State} (h : s.tac.getLsbD 2 = true) (hr : s.reloadPending = 0) (ht : s.tima ≠ 0xFF) :
    tick (clockPeriod s) s = { s with div16 := s.div16 + BitVec.ofNat 16 (clockPeriod s), tima := s.tima + 1 } := by
  have hphase : s.div16.toNat % clockPeriod s < clockPeriod s :=
    Nat.mod_lt _ (Nat.pos_of_dvd_of_pos (clockPeriod_dvd s) (by decide))
  generalize hp : s.div16.toNat % clockPeriod s = phase at hphase
  obtain ⟨before, hsplit⟩ : ∃ m, clockPeriod s = m + 1 + phase := ⟨clockPeriod s - 1 - phase, by omega⟩
  have hedge : (s.div16 + BitVec.ofNat 16 before).toNat % clockPeriod s = clockPeriod s - 1 := by
    rw [add_ofNat_mod _ _ (clockPeriod_dvd s), ← Nat.mod_add_mod, hp, Nat.mod_eq_of_lt (by omega)]
    omega
  have hnext : (s.div16 + BitVec.ofNat 16 before + 1).toNat % clockPeriod s = 0 := by
    rw [← add_ofNat_succ, add_ofNat_mod _ _ (clockPeriod_dvd s), ← Nat.mod_add_mod, hp, Nat.add_comm, ← hsplit,
      Nat.mod_self]
  have hfirst : tick before s = { s with div16 := s.div16 + BitVec.ofNat 16 before } :=
    tick_of_idle hr (quiet_of_phase h (by omega))
  have hclock := tick1_of_increment (s := { s with div16 := s.div16 + BitVec.ofNat 16 before }) hr
    ((clocksTima_iff h _).2 hedge) ht
  have hrest : (s.div16 + BitVec.ofNat 16 before + 1).toNat % clockPeriod s + phase < clockPeriod s := by
    rw [hnext]
    omega
  have hlast := tick_of_idle (s := { s with div16 := s.div16 + BitVec.ofNat 16 before + 1, tima := s.tima + 1 }) hr
    (quiet_of_phase h hrest)
  calc tick (clockPeriod s) s
    _ = tick phase (tick1 (tick before s)) := by rw [hsplit, tick_add, tick_add, tick_one]
    _ = _ := by rw [hfirst, hclock, hlast, ← add_ofNat_succ, BitVec.add_assoc, ← BitVec.ofNat_add, ← hsplit]

theorem tick_increments_once {s : State} {n : Nat} (hn : n = clockPeriod s) (h : s.tac.getLsbD 2 = true)
    (hr : s.reloadPending = 0) (ht : s.tima ≠ 0xFF) :
    (tick n s).tima = s.tima + 1 ∧ (tick n s).ifl = s.ifl ∧ (tick n s).reloadPending = 0 := by
  rw [hn, tick_clockPeriod h hr ht]
  exact ⟨rfl, rfl, hr⟩

/-- Settles O30: a period holds exactly one falling edge, and a stopped timer sees none. -/
theorem timaPeriod : Obligations.TimaPeriod := by
  unfold Obligations.TimaPeriod
  refine ⟨fun s h hr ht => tick_increments_once ?_ h hr ht, fun n s h hr => ?_⟩
  · -- the four clock selects
    unfold clockPeriod clockSelect
    generalize s.tac = tac
    revert tac
    decide
  · rw [tick_of_idle hr fun _ _ => clocksTima_of_not_enabled h _]
    exact ⟨rfl, rfl⟩

/-! ## The reload -/

/-- A pending reload whose delay ends before the low four bits of the divider carry (R192, R195). -/
theorem tick_reload {s : State} (hr : s.reloadPending ≠ 0) (hd : s.div16.toNat % 16 + s.reloadPending ≤ 15) :
    tick s.reloadPending s = requestInterrupt .timer
      { s with div16 := s.div16 + BitVec.ofNat 16 s.reloadPending, tima := s.tma, reloadPending := 0 } := by
  obtain ⟨n, hn⟩ := Nat.exists_eq_add_one_of_ne_zero hr
  have hfirst := tick_of_quiet (n := n) (s := s) (.inr (by omega)) (quiet_of_low_nibble (by omega))
  have hlast : s.reloadPending - n = 1 := by omega
  have hquiet : clocksTima s (s.div16 + BitVec.ofNat 16 n) = false :=
    quiet_of_low_nibble (n := n + 1) (by omega) n (by omega)
  rw [hn, tick_add, tick_one, hfirst, hlast, tick1_of_reload rfl hquiet, add_ofNat_succ]

theorem timerReloadDelay_bounds {p : Params} (h : legalParams p = true) :
    1 ≤ p.timerReloadDelay ∧ p.timerReloadDelay ≤ 15 := by
  simp only [legalParams, Bool.and_eq_true, decide_eq_true_eq] at h
  exact h.1

/-- Settles O31: the overflow begins a phase of the low four bits, within which the whole delay passes. -/
theorem timaOverflowReloads : Obligations.TimaOverflowReloads := by
  unfold Obligations.TimaOverflowReloads
  intro s k hlegal hr hen ht hk hset hclear
  have hbit : k = selectedBit (clockSelect s) := by
    rw [hk]
    unfold clockSelect
    generalize s.tac = tac
    revert tac
    decide
  have hedge : fallingEdge s s.div16 = true := by rw [fallingEdge, ← hbit, hset, hclear]; rfl
  have hover := tick1_of_overflow hr (by rw [clocksTima, timerEnabled, hen, hedge]; rfl) ht
  have hphase : (s.div16 + 1).toNat % 16 = 0 := by rw [low_nibble_add_one, low_nibble_of_fallingEdge hedge]
  obtain ⟨hmin, hmax⟩ := timerReloadDelay_bounds hlegal
  refine ⟨fun n hn => ?_, ?_⟩
  · rw [tick_add, tick_one, hover, tick_of_quiet (.inr hn) (quiet_of_low_nibble (by dsimp only; omega))]
    exact ⟨rfl, rfl⟩
  · have hreload := tick_reload (s := tick1 s) (by rw [hover]; dsimp only; omega) (by rw [hover]; dsimp only; omega)
    rw [hover] at hreload
    rw [tick_add, tick_one, hover, hreload]
    exact ⟨rfl, rfl⟩

/-! ## Writes to the timer's registers -/

/-- Settles O32: each address selects its register; a cleared divider starts a phase without a falling edge, and a cancelled
reload requests nothing. -/
theorem timerRegisterWrites : Obligations.TimerRegisterWrites := by
  unfold Obligations.TimerRegisterWrites
  intro s v
  have hdiv : memWrite s 0xFF04 v = { s with div16 := 0 } := memWrite_eq_writeTarget s 0xFF04 v
  have htima : memWrite s 0xFF05 v = { s with tima := v, reloadPending := 0 } := memWrite_eq_writeTarget s 0xFF05 v
  have htma : memWrite s 0xFF06 v = { s with tma := v } := memWrite_eq_writeTarget s 0xFF06 v
  have htac : memWrite s 0xFF07 v = { s with tac := v.extractLsb' 0 3 } := memWrite_eq_writeTarget s 0xFF07 v
  refine ⟨hdiv, fun hr => ?div, htac, htima, ?tima, htma, fun hinv hr => ?tma⟩
  case div =>
    have hquiet : clocksTima { s with div16 := 0 } 0 = false := clocksTima_of_low_nibble (by decide)
    have hcycle := tick1_of_quiet (s := { s with div16 := 0 }) (by simp [hr]) hquiet
    rw [hdiv, tick_one, hcycle]
  case tima =>
    rw [htima, tick_one, tick1, countDivider_ifl, countReload_of_ne_one (Nat.zero_ne_one)]
  case tma =>
    have hphase := hinv.reload_phase hr
    have hdelay := hinv.reloadDelay_le
    rw [htma]
    exact congrArg State.tima (tick_reload (s := { s with tma := v }) hr (by dsimp only; omega))

end Sys2Proof.Machine

/-! SUPPORT. The interrupt controller, HALT and STOP (spec/60_exceptions.md R179 to R204): requests in IF, which source is
pending and enabled, and what a step of a core that waits or is interrupted answers. -/

namespace Sys2Proof.Machine

/-! ## Requests (R180) -/

theorem mask_getLsbD (i : IntSource) {j : Nat} (hj : j < 5) : i.mask.getLsbD j = decide (j = i.bit) := by
  revert j
  cases i <;> decide

theorem requestInterrupt_ifl_getLsbD (i : IntSource) (s : State) {j : Nat} (hj : j < 5) :
    (requestInterrupt i s).ifl.getLsbD j = (s.ifl.getLsbD j || decide (j = i.bit)) := by
  rw [requestInterrupt, BitVec.getLsbD_or, mask_getLsbD i hj]

theorem requestInterrupt_of_set {i : IntSource} {s : State} (h : s.ifl.getLsbD i.bit = true) : requestInterrupt i s = s := by
  have hsame : s.ifl ||| i.mask = s.ifl := by
    refine BitVec.eq_of_getLsbD_eq fun j hj => ?_
    rw [BitVec.getLsbD_or, mask_getLsbD i hj]
    by_cases hbit : j = i.bit
    · rw [hbit, h, Bool.true_or]
    · simp [hbit]
  rw [requestInterrupt, hsame]

/-- Settles O33: a request is an `or` with the mask of one bit. -/
theorem requestInterruptSetsOneBit : Obligations.RequestInterruptSetsOneBit := by
  unfold Obligations.RequestInterruptSetsOneBit
  intro s i v
  have hbit : i.bit < 5 := by cases i <;> decide
  exact ⟨memWrite_eq_writeTarget s 0xFF0F v, rfl, fun j => requestInterrupt_ifl_getLsbD i s,
    requestInterrupt_of_set (by simp [requestInterrupt_ifl_getLsbD i s hbit]), requestInterrupt_of_set⟩

/-! ## The source that is pending and enabled (R181) -/

theorem pendingMask_eq (s : State) : pendingMask s = s.ie.extractLsb' 0 5 &&& s.ifl := by
  rw [pendingMask, BitVec.truncate_eq_setWidth, BitVec.setWidth_eq_extractLsb' (by decide)]

theorem pendingMask_getLsbD (s : State) (i : IntSource) :
    (pendingMask s).getLsbD i.bit = (s.ie.getLsbD i.bit && s.ifl.getLsbD i.bit) := by
  cases i <;> simp [pendingMask, IntSource.bit]

/-- In a list of rising keys `find?` answers the member of the lowest key. -/
theorem find?_eq_some_iff_of_pairwise {α : Type} {key : α → Nat} {l : List α} (hl : l.Pairwise (key · < key ·))
    {p : α → Bool} {i : α} :
    l.find? p = some i ↔ i ∈ l ∧ p i = true ∧ ∀ j ∈ l, key j < key i → ¬p j = true := by
  induction l with
  | nil => simp
  | cons a l ih =>
    obtain ⟨hfirst, hrest⟩ := List.pairwise_cons.1 hl
    rw [List.find?_cons]
    by_cases ha : p a = true
    · simp only [ha, Option.some.injEq, List.forall_mem_cons]
      constructor
      · rintro rfl
        exact ⟨List.mem_cons_self, ha, fun hlt => absurd hlt (Nat.lt_irrefl _),
          fun j hj hlt => absurd (hfirst j hj) hlt.asymm⟩
      · rintro ⟨hi, -, hlow, -⟩
        obtain rfl | hi := List.mem_cons.1 hi
        · rfl
        · exact absurd trivial (hlow (hfirst i hi))
    · simp only [ha, ih hrest, List.forall_mem_cons]
      constructor
      · rintro ⟨hi, hp, hlow⟩
        exact ⟨List.mem_cons_of_mem a hi, hp, nofun, hlow⟩
      · rintro ⟨hi, hp, -, hlow⟩
        obtain rfl | hi := List.mem_cons.1 hi
        · exact absurd hp ha
        · exact ⟨hi, hp, hlow⟩

/-- The sources in the order of their bits (R179). -/
def intSources : List IntSource := [.vblank, .lcdStatus, .timer, .serial, .joypad]

theorem mem_intSources (i : IntSource) : i ∈ intSources := by cases i <;> decide

theorem pendingAndEnabled_eq_find (s : State) :
    pendingAndEnabled s = intSources.find? fun i => s.ie.getLsbD i.bit && s.ifl.getLsbD i.bit := by
  simp only [← pendingMask_getLsbD]
  rfl

/-- Settles O21: the list of the sources is in the order of their bits, and holds them all. -/
theorem highestPriorityPendingSource : Obligations.HighestPriorityPendingSource := by
  unfold Obligations.HighestPriorityPendingSource
  have hrising : intSources.Pairwise (IntSource.bit · < IntSource.bit ·) := by decide
  refine ⟨rfl, fun s i => ?_, fun s => ?_⟩
  · rw [pendingAndEnabled_eq_find, find?_eq_some_iff_of_pairwise hrising]
    simp only [mem_intSources, true_and, forall_const, Bool.and_eq_true]
  · rw [pendingAndEnabled_eq_find, List.find?_eq_none]
    simp only [mem_intSources, forall_const, Bool.and_eq_true]

/-! ## Taking an interrupt (R183, R184) -/

theorem serviceable_eq_some {s : State} {source : IntSource} :
    serviceable s = some source ↔ s.ime = true ∧ pendingAndEnabled s = some source := by
  unfold serviceable
  split_ifs with h <;> simp [h]

/-- Settles O22: only a step of a live core with a serviceable source reports a service. -/
theorem serviceOnlyWhenEnabled : Obligations.ServiceOnlyWhenEnabled := by
  unfold Obligations.ServiceOnlyWhenEnabled
  intro s source
  rw [← serviceable_eq_some]
  constructor
  · rintro ⟨cycles, t, h⟩
    have hv := (engineStep_kind h).1 source rfl
    obtain ⟨hf, ⟨-, hstop⟩ | ⟨hc, -⟩⟩ := engineStep_cases h
    · cases hstop
    · exact ⟨hf, hc, hv⟩
  · rintro ⟨hf, hc, hv⟩
    exact ⟨_, _, engineStep_of_serviceable hf hc hv⟩

/-- R201: a source pending and enabled leaves a core that is not STOPPED RUNNING. -/
theorem wake_of_pending {s : State} (hc : s.cpu ≠ .stopped) (hp : pendingMask s ≠ 0) :
    wake s = { s with cpu := .running } := by
  unfold wake
  cases hcpu : s.cpu with
  | running => exact (if_neg nofun).trans (congrArg (fun c => { s with cpu := c }) hcpu)
  | halted => exact if_pos ⟨rfl, hp⟩
  | stopped => exact absurd hcpu hc

theorem wake_running (s : State) : wake { s with cpu := .running } = { s with cpu := .running } :=
  wake_of_not_halted nofun

theorem pendingMask_ne_zero {s : State} {source : IntSource} (h : pendingAndEnabled s = some source) : pendingMask s ≠ 0 := by
  rw [ne_eq, ← pendingAndEnabled_eq_none, h]
  nofun

/-- Settles O20: the push of PC is two MemWrites, and the acknowledge clears the mask's bit in the IF they leave. -/
theorem serviceInterrupt_spec : Obligations.ServiceInterrupt := by
  unfold Obligations.ServiceInterrupt
  intro s source hf hc hime hsource
  rw [engineStep_of_serviceable hf hc (serviceable_eq_some.2 ⟨hime, hsource⟩),
    wake_of_pending hc (pendingMask_ne_zero hsource), Machine.serviceInterrupt, takeInterrupt, push16_eq]
  rfl

/-! ## HALT (R200 to R202) -/

theorem engineStep_of_live {s : State} (hf : s.fault = none) (hc : s.cpu ≠ .stopped) : engineStep s = liveStep s := by
  unfold engineStep
  rw [hf]
  exact if_neg hc

theorem fetchAndRun_of_instrAtPC {i : Instr} {s : State} (hi : instrAtPC i s) : fetchAndRun s = runInstr i s := by
  obtain ⟨hfetch, hin⟩ := instrAtPC_iff.1 hi
  rw [fetchAndRun, hfetch, if_neg (by simp [hin])]

section

variable {s : State}

/-- R200: nothing to wake for. -/
theorem engineStep_of_idle (hf : s.fault = none) (hc : s.cpu = .halted) (hp : pendingMask s = 0) :
    engineStep s = .next ⟨.halted, 4, tick 4 s⟩ := by
  have hwake : wake s = s := if_neg fun h => h.2 hp
  rw [engineStep_of_live hf (by simp [hc]), liveStep, serviceable_eq_none.2 fun _ => hp, hwake]
  exact if_pos hc

/-- R201: with IME set the woken core is interrupted. -/
theorem engineStep_of_wake_serviced (hf : s.fault = none) (hc : s.cpu = .halted) (hp : pendingMask s ≠ 0)
    {source : IntSource} (hv : serviceable s = some source) :
    engineStep s = engineStep { s with cpu := .running } := by
  rw [engineStep_of_serviceable hf (by simp [hc]) hv, wake_of_pending (by simp [hc]) hp,
    engineStep_of_serviceable (s := { s with cpu := .running }) hf nofun hv, wake_running]

/-- R202: with IME clear the woken core goes on with the instruction after HALT. -/
theorem engineStep_of_wake_fetch (hf : s.fault = none) (hc : s.cpu = .halted) (hp : pendingMask s ≠ 0)
    (hime : s.ime = false) : engineStep s = fetchAndRun s := by
  rw [engineStep_of_live hf (by simp [hc]), liveStep, serviceable_eq_none.2 (by simp [hime]),
    wake_of_pending (by simp [hc]) hp]
  exact if_neg nofun

/-- An instruction's body sees the woken state, so the run of a defined one does not depend on HALTED. -/
theorem runInstr_of_wake {i : Instr} (hi : ∀ op, i ≠ .undefined op) (hc : s.cpu = .halted) (hp : pendingMask s ≠ 0) :
    runInstr i s = runInstr i { s with cpu := .running } := by
  have hbody : beforeBody i s = beforeBody i { s with cpu := .running } := by
    rw [beforeBody_eq hi, beforeBody_eq hi, wake_of_pending (by simp [hc]) hp, wake_running]
  unfold runInstr
  rw [hbody]

end

/-- Settles O19: what a HALTED core does is chosen by the pending mask, and then by IME. -/
theorem haltIdlesOrWakes : Obligations.HaltIdlesOrWakes := by
  unfold Obligations.HaltIdlesOrWakes
  simp only [← pendingMask_eq]
  refine ⟨fun s hf hc hp => engineStep_of_idle hf hc hp, fun s hf hc hp hime => ?serviced,
    fun s i hf hc hp hime hi => ?fetches⟩
  case serviced =>
    have hlive : s.cpu ≠ .stopped := by simp [hc]
    have hsome : serviceable s ≠ none := fun hnone => hp (serviceable_eq_none.1 hnone hime)
    obtain ⟨source, hv⟩ := Option.ne_none_iff_exists'.1 hsome
    exact ⟨engineStep_of_wake_serviced hf hc hp hv, engineStep_of_pending hf hlive hime hp⟩
  case fetches =>
    rw [engineStep_of_wake_fetch hf hc hp hime, fetchAndRun_of_instrAtPC hi]
    refine ⟨fun hdef => ?_, ?_⟩
    · have hrunning : fetchesNow { s with cpu := .running } := ⟨hf, rfl, by simp [hime]⟩
      rw [engineStep_eq_runInstr hrunning (i := i) hi, runInstr_of_wake hdef hc hp]
    · rintro op rfl
      rfl

end Sys2Proof.Machine

/-! SUPPORT. Every instruction and every step completes (spec/48_system.md R175, spec/60_exceptions.md R176 to R178), and the
system instructions (spec/48_system.md R169 to R173). -/

namespace Sys2Proof.Machine

/-! ## Every step completes -/

theorem runInstr_completes (i : Instr) (s : State) : ∃ r, runInstr i s = .next r := by
  obtain ⟨t, ht, -⟩ := exec_effect i (beforeBody i s)
  unfold runInstr
  dsimp only
  rw [ht]
  exact ⟨_, rfl⟩

theorem fetchAndRun_completes (s : State) : ∃ r, fetchAndRun s = .next r := by
  unfold fetchAndRun
  split_ifs
  · exact ⟨_, rfl⟩
  · exact runInstr_completes _ s

theorem liveStep_completes (s : State) : ∃ r, liveStep s = .next r := by
  unfold liveStep
  split
  · exact ⟨_, rfl⟩
  · split_ifs
    · exact ⟨_, rfl⟩
    · exact fetchAndRun_completes s

theorem engineStep_completes {s : State} (h : s.fault = none) : ∃ r, engineStep s = .next r := by
  unfold engineStep
  rw [h]
  dsimp only
  split_ifs
  · exact ⟨_, rfl⟩
  · exact liveStep_completes s

theorem engineStep_of_fault {s : State} {e : DecodeError} (h : s.fault = some e) :
    engineStep s = .fault (.latchedDecodeError e.addr e.byte) := by
  unfold engineStep
  rw [h]

/-- Settles O25: an instruction's body completes whatever it is, and so does every stage of the step that runs it. -/
theorem everyInstructionCompletes : Obligations.EveryInstructionCompletes := by
  unfold Obligations.EveryInstructionCompletes
  have hstep : ∀ s : State, s.fault = none → ∃ t, step s = .next t := fun s h => by
    obtain ⟨r, hr⟩ := engineStep_completes h
    exact ⟨r.after, step_eq_next.2 ⟨r, hr, rfl⟩⟩
  refine ⟨fun i s => ?body, hstep, fun s x hx => ?refused⟩
  case body =>
    obtain ⟨t, ht, -⟩ := exec_effect i s
    exact ⟨t, ht⟩
  case refused =>
    cases hf : s.fault with
    | none =>
      obtain ⟨t, ht⟩ := hstep s hf
      rw [ht] at hx
      cases hx
    | some e =>
      rw [step, engineStep_of_fault hf] at hx
      cases hx

/-! ## The system instructions -/

theorem ramTarget_ne_div (p : Params) (a : Nat) : ramTarget p a ≠ .div := by
  unfold ramTarget
  split_ifs <;> simp

theorem ioTarget_ne_div (p : Params) {addr : Word} (h : addr ≠ 0xFF04) : ioTarget p addr ≠ .div := by
  rw [ioTarget, if_neg h]
  split_ifs <;> simp

theorem topTarget_ne_div (p : Params) {addr : Word} (h : addr ≠ 0xFF04) : topTarget p addr ≠ .div := by
  unfold topTarget
  split_ifs <;> simp [ioTarget_ne_div p h]

/-- R49: 0xFF04 alone selects the divider. -/
theorem busTarget_ne_div (p : Params) {addr : Word} (h : addr ≠ 0xFF04) : busTarget p addr ≠ .div := by
  unfold busTarget
  split_ifs
  · simp
  · exact ramTarget_ne_div p _
  · exact topTarget_ne_div p h

/-- A read elsewhere does not see the divider. -/
theorem memRead_clearDivider (s : State) {addr : Word} (h : addr ≠ 0xFF04) :
    memRead { s with div16 := 0 } addr = memRead s addr := by
  rw [memRead_eq_readTarget, memRead_eq_readTarget]
  dsimp only
  cases ht : busTarget s.params addr with
  | div => exact absurd ht (busTarget_ne_div _ h)
  | rom | ram | unmapped | tima | tma | tac | iflag | ie | hook => rfl

/-- Settles O60: each instruction answers its record, whose stored bytes are the old ones; after STOP the 4 clock cycles
count from a cleared divider. -/
theorem systemInstructions : Obligations.SystemInstructions := by
  unfold Obligations.SystemInstructions
  intro pad s
  refine ⟨rfl, ⟨_, rfl, rfl, rfl, rfl, fun _ => rfl⟩, ⟨_, rfl, rfl, ?_, fun addr h => memRead_clearDivider s h⟩,
    ⟨_, rfl, rfl, rfl, rfl, fun _ => rfl⟩, ⟨_, rfl, rfl, rfl, rfl, fun _ => rfl⟩, ⟨rfl, fun _ => rfl⟩,
    ⟨rfl, fun _ => rfl⟩, ⟨rfl, fun _ => rfl⟩, ⟨rfl, fun _ => rfl⟩, ⟨rfl, fun _ => rfl⟩⟩
  exact tick_div16 4 { s with cpu := .stopped, div16 := 0 }

end Sys2Proof.Machine

/-! SUPPORT. The host's side (spec/60_exceptions.md R203 to R213): what the host's actions keep, the fault latch and STOP between
them, and the loop of `runToBreakpoint()` (R206). -/

namespace Sys2Proof.Machine

/-! ## What the host's actions keep -/

theorem addBreakpoint_eq (address : Nat) (s : State) :
    addBreakpoint address s = { s with
      breakpoints := if BitVec.ofNat 16 address ∈ s.breakpoints then s.breakpoints
        else s.breakpoints ++ [BitVec.ofNat 16 address] } := by
  unfold addBreakpoint
  simp only [List.contains_iff_mem]
  split_ifs <;> rfl

theorem addBreakpoint_nodup (address : Nat) {s : State} (h : s.breakpoints.Nodup) :
    (addBreakpoint address s).breakpoints.Nodup := by
  rw [addBreakpoint_eq]
  dsimp only
  split_ifs with hmem
  · exact h
  · rw [← List.concat_eq_append]
    exact h.concat hmem

theorem removeBreakpoint_of_length_le {index : Nat} {s : State} (h : s.breakpoints.length ≤ index) :
    removeBreakpoint index s = s := by
  rw [removeBreakpoint, List.eraseIdx_of_length_le h]

/-- Settles O34: the set is a list without repetition, to whose end a new member goes. -/
theorem breakpointSetOperations : Obligations.BreakpointSetOperations := by
  unfold Obligations.BreakpointSetOperations
  refine ⟨fun address s => ⟨addBreakpoint_eq address s, addBreakpoint_nodup address⟩,
    fun index s => ⟨?_, removeBreakpoint_of_length_le⟩⟩
  rw [← List.eraseIdx_eq_take_drop_succ]
  rfl

theorem stopWake_of_stopped {s : State} (h : s.cpu = .stopped) : stopWake s = { s with cpu := .running } := if_pos h

theorem stopWake_of_not_stopped {s : State} (h : s.cpu ≠ .stopped) : stopWake s = s := if_neg h

/-- Only `reset()` writes the fault latch (R177). -/
theorem hostAct_fault {action : HostAction} (hreset : action ≠ .reset) (s : State) :
    (hostAct action s).fault = s.fault := by
  cases action with
  | addBreakpoint address => rw [hostAct, addBreakpoint_eq]
  | writeByte addr v => exact memWrite_fault s addr v
  | stopWake =>
    rw [hostAct, Machine.stopWake]
    split_ifs <;> rfl
  | reset => exact absurd rfl hreset
  | loadROM | removeBreakpoint | requestInterrupt | setCancel | deviceActs => rfl

/-- Only `stopWake()` and `reset()` write cpu_state (R204). -/
theorem hostAct_cpu {action : HostAction} (hwake : action ≠ .stopWake) (hreset : action ≠ .reset) (s : State) :
    (hostAct action s).cpu = s.cpu := by
  cases action with
  | addBreakpoint address => rw [hostAct, addBreakpoint_eq]
  | writeByte addr v => exact memWrite_cpu s addr v
  | stopWake => exact absurd rfl hwake
  | reset => exact absurd rfl hreset
  | loadROM | removeBreakpoint | requestInterrupt | setCancel | deviceActs => rfl

/-! ## The invariant (R33, R36, R42) -/

theorem risingFrom_imageCells (image : List Byte) (n : Nat) : Memory.risingFrom n (imageCells image n) = true := by
  induction image generalizing n with
  | nil => rfl
  | cons b rest ih =>
    rw [imageCells_cons]
    split_ifs
    · exact Memory.risingFrom_mono (Nat.le_succ n) _ (ih (n + 1))
    · simp [Memory.risingFrom, ih]

theorem wf_romCells (image : List Byte) : Memory.wf (romCells image) = true := by
  rw [Memory.wf_iff, romCells_eq_imageCells]
  refine ⟨risingFrom_imageCells _ 0, fun c hc => ?_⟩
  simpa [Memory.unlisted] using (List.mem_filter.1 hc).2

/-- A canonical ROM half before a canonical RAM half. -/
theorem Memory.wf_rom_append_ram {rom ram : List Host.Cell} (hrom : Memory.wf rom = true) (hram : Memory.wf ram = true)
    (hlow : ∀ c ∈ rom, c.1 < 0x8000) (hhigh : ∀ c ∈ ram, 0x8000 ≤ c.1) : Memory.wf (rom ++ ram) = true := by
  rw [Memory.wf_iff] at hrom hram ⊢
  obtain ⟨hrom, hromCells⟩ := hrom
  obtain ⟨hram, hramCells⟩ := hram
  exact ⟨Memory.risingFrom_append hrom hlow (Memory.risingFrom_of_forall hram hhigh) (Nat.zero_le _),
    List.forall_mem_append.2 ⟨hromCells, hramCells⟩⟩

theorem isBacked_of_lt {p : Params} {k : Nat} (h : k < 0x8000) : isBacked p k = true := by simp [isBacked, isRomAddress, h]

theorem lt_of_mem_filter_rom {m : List Host.Cell} {c : Host.Cell} (h : c ∈ m.filter fun cell => isRomAddress cell.1) :
    c.1 < 0x8000 := by
  simpa [isRomAddress] using (List.mem_filter.1 h).2

theorem ge_of_mem_filter_not_rom {m : List Host.Cell} {c : Host.Cell} (h : c ∈ m.filter fun cell => !isRomAddress cell.1) :
    0x8000 ≤ c.1 := by
  simpa [isRomAddress] using (List.mem_filter.1 h).2

namespace State.Inv

variable {s : State}

theorem loadROM (h : s.Inv) (image : List Byte) : (loadROM image s).Inv :=
  { h with
    mem_canonical := Memory.wf_rom_append_ram (wf_romCells image) (Memory.wf_filter _ h.mem_canonical) (fun _ => romCells_lt)
      fun _ => ge_of_mem_filter_not_rom
    mem_backed := List.forall_mem_append.2 ⟨fun _ hc => isBacked_of_lt (romCells_lt hc),
      fun c hc => h.mem_backed c (List.mem_filter.1 hc).1⟩ }

/-- `reset()` is power-on beside the ROM cells and the breakpoint set, which the invariant held of. -/
theorem hostReset (h : s.Inv) : (hostReset s).Inv :=
  have hon := powerOn_inv h.params_legal
  { hon with
    mem_canonical := Memory.wf_rom_append_ram (Memory.wf_filter _ h.mem_canonical) hon.mem_canonical
      (fun _ => lt_of_mem_filter_rom) fun _ => initialRam_ge
    mem_backed := List.forall_mem_append.2 ⟨fun _ hc => isBacked_of_lt (lt_of_mem_filter_rom hc), hon.mem_backed⟩
    breakpoints_distinct := h.breakpoints_distinct }

theorem addBreakpoint (h : s.Inv) (address : Nat) : (addBreakpoint address s).Inv := by
  have hnodup := addBreakpoint_nodup address h.breakpoints_distinct
  rw [addBreakpoint_eq] at hnodup ⊢
  exact { h with breakpoints_distinct := hnodup }

theorem removeBreakpoint (h : s.Inv) (index : Nat) : (removeBreakpoint index s).Inv :=
  { h with breakpoints_distinct := h.breakpoints_distinct.sublist (List.eraseIdx_sublist _ _) }

theorem stopWake (h : s.Inv) : (stopWake s).Inv := by
  unfold Machine.stopWake
  split_ifs
  · exact h.congr rfl rfl rfl rfl rfl rfl
  · exact h

end State.Inv

/-- Settles O8: `loadROM` and `reset()` put a canonical ROM half before a canonical RAM half; the other actions leave the
invariant's fields, or are a MemWrite or an operation of the breakpoint set. -/
theorem hostActionsKeepInvariant : Obligations.HostActionsKeepInvariant := by
  unfold Obligations.HostActionsKeepInvariant
  intro action s h
  cases action with
  | loadROM image => exact h.loadROM image
  | addBreakpoint address => exact h.addBreakpoint address
  | removeBreakpoint index => exact h.removeBreakpoint index
  | reset => exact h.hostReset
  | writeByte addr v => exact h.memWrite addr v
  | stopWake => exact h.stopWake
  | requestInterrupt | setCancel | deviceActs => exact h.congr rfl rfl rfl rfl rfl rfl

/-! ## The fault latch (R177) -/

/-- A step that reports DecodeError has latched it. -/
theorem fault_of_decodeError {s : State} {r : StepReport} {e : DecodeError} (h : engineStep s = .next r)
    (hk : r.kind = .decodeError e) : s.fault = none ∧ r.after.fault = some e := by
  obtain ⟨hf, hcases⟩ := engineStep_cases h
  refine ⟨hf, ?_⟩
  obtain ⟨-, rfl⟩ | ⟨-, ⟨source, -, rfl⟩ | ⟨-, -, rfl⟩ | ⟨-, -, -, rfl⟩ | ⟨-, -, -, hrun⟩⟩ := hcases
  case inr.inr.inr.inl =>
    cases hk
    rfl
  case inr.inr.inr.inr =>
    obtain ⟨t, ht, -, hafter, ⟨op, hop, hkind⟩ | ⟨-, hkind⟩⟩ := runInstr_next hrun
    · rw [hop] at ht
      cases ht
      rw [hafter, tick_fault]
      exact congrArg some (StepKind.decodeError.inj (hkind.symm.trans hk))
    · rw [hkind] at hk
      cases hk
  all_goals cases hk

/-- Settles O17: a step of a latched core stops before every stage, and only `reset()` writes the latch. -/
theorem faultLatchIsSticky : Obligations.FaultLatchIsSticky := by
  unfold Obligations.FaultLatchIsSticky
  refine ⟨fun s t e cycles h => fault_of_decodeError h rfl, fun s addr byte h => ?_, fun action s h => hostAct_fault h s,
    fun s => rfl⟩
  have hlatched := engineStep_of_fault h
  exact ⟨hlatched, by rw [step, hlatched]; rfl⟩

/-! ## STOP and the run loop (R203 to R206) -/

theorem engineStep_of_stopped {s : State} (hf : s.fault = none) (hc : s.cpu = .stopped) :
    engineStep s = .next ⟨.stopped, 0, s⟩ := by
  unfold engineStep
  rw [hf]
  exact if_pos hc

/-- The state an iteration polls the flag on: the host's actions come first (R211). -/
def afterActions (actions : List HostAction) (s : State) : State := actions.foldl (fun t act => hostAct act t) s

section

variable {actions : List HostAction} {later : List (List HostAction)} {s : State}

theorem runToBreakpoint_of_cancelled (hc : (afterActions actions s).cancelFlag = true) :
    runToBreakpoint (actions :: later) s = .cancelled (afterActions actions s) :=
  if_pos hc

theorem runToBreakpoint_of_fault {x : Fault} (hc : (afterActions actions s).cancelFlag = false)
    (hx : engineStep (afterActions actions s) = .fault x) : runToBreakpoint (actions :: later) s = .fault x := by
  unfold afterActions at hc hx
  simp only [runToBreakpoint, hc, hx, Bool.false_eq_true, if_false]

theorem runToBreakpoint_of_decodeError {r : StepReport} {e : DecodeError}
    (hc : (afterActions actions s).cancelFlag = false) (hr : engineStep (afterActions actions s) = .next r)
    (hk : r.kind = .decodeError e) : runToBreakpoint (actions :: later) s = .decodeError e r.after := by
  unfold afterActions at hc hr
  simp only [runToBreakpoint, hc, hr, hk, Bool.false_eq_true, if_false]

theorem runToBreakpoint_of_step {r : StepReport} (hc : (afterActions actions s).cancelFlag = false)
    (hr : engineStep (afterActions actions s) = .next r) (hk : ∀ e, r.kind ≠ .decodeError e) :
    runToBreakpoint (actions :: later) s =
      if r.after.pc ∈ r.after.breakpoints then .breakpointHit r.after.pc r.after else runToBreakpoint later r.after := by
  unfold afterActions at hc hr
  simp only [runToBreakpoint, hc, hr, Bool.false_eq_true, if_false, List.contains_iff_mem]

end

/-- What an exit of the loop says of the state it leaves (R206). -/
def exitJustified : RunResult → Prop
  | .breakpointHit a t => t.pc = a ∧ a ∈ t.breakpoints ∧ ∃ u, step u = .next t
  | .decodeError e t => t.fault = some e ∧ ∃ u, step u = .next t ∧ u.fault = none
  | .cancelled t => t.cancelFlag = true
  | .running _ | .fault _ | .refused _ => True

theorem runToBreakpoint_exitJustified (inputs : List (List HostAction)) (s : State) :
    exitJustified (runToBreakpoint inputs s) := by
  induction inputs generalizing s with
  | nil => trivial
  | cons actions later ih =>
    cases hc : (afterActions actions s).cancelFlag with
    | true =>
      rw [runToBreakpoint_of_cancelled hc]
      exact hc
    | false =>
      cases hf : (afterActions actions s).fault with
      | some e =>
        rw [runToBreakpoint_of_fault hc (engineStep_of_fault hf)]
        trivial
      | none =>
        obtain ⟨r, hr⟩ := engineStep_completes hf
        have hstep := step_eq_next.2 ⟨r, hr, rfl⟩
        by_cases hk : ∃ e, r.kind = .decodeError e
        · obtain ⟨e, hk⟩ := hk
          rw [runToBreakpoint_of_decodeError hc hr hk]
          exact ⟨(fault_of_decodeError hr hk).2, _, hstep, hf⟩
        · rw [runToBreakpoint_of_step hc hr (not_exists.1 hk)]
          split_ifs with hhit
          · exact ⟨rfl, hhit, _, hstep⟩
          · exact ih r.after

/-- Settles O35: every exit is justified by the loop's last iteration, and one iteration polls the flag and then makes the
step its report of which decides. -/
theorem runToBreakpointExits : Obligations.RunToBreakpointExits := by
  unfold Obligations.RunToBreakpointExits
  refine ⟨fun inputs s t a h => ?_, fun inputs s t e h => ?_, fun inputs s t h => ?_, fun s => rfl,
    fun actions later s => ⟨runToBreakpoint_of_cancelled, fun addr byte hc hf =>
      runToBreakpoint_of_fault hc (engineStep_of_fault hf), fun hc hf => ?iteration⟩⟩
  case iteration =>
    obtain ⟨r, hr⟩ := engineStep_completes hf
    refine ⟨r, hr, fun e => runToBreakpoint_of_decodeError hc hr, fun hk hhit => ?_, fun hk hmiss => ?_⟩
    · rw [runToBreakpoint_of_step hc hr hk, if_pos hhit]
    · rw [runToBreakpoint_of_step hc hr hk, if_neg hmiss]
  all_goals
    have hexit := runToBreakpoint_exitJustified inputs s
    rw [h] at hexit
    exact hexit

/-- Settles O18: the step of a STOPPED core answers the core itself, so the loop polls its flag and its breakpoints again. -/
theorem stoppedCoreWaitsForStopWake : Obligations.StoppedCoreWaitsForStopWake := by
  unfold Obligations.StoppedCoreWaitsForStopWake
  refine ⟨fun s hf hc => ?step, fun later s hf hc hcancel hmiss => ?spin, fun s => stopWake_of_stopped,
    fun s => stopWake_of_not_stopped, fun action s hc hwake hreset => (hostAct_cpu hwake hreset s).trans hc⟩
  case step =>
    have hstopped := engineStep_of_stopped hf hc
    exact ⟨hstopped, step_eq_next.2 ⟨_, hstopped, rfl⟩⟩
  case spin =>
    exact (runToBreakpoint_of_step (actions := []) hcancel (engineStep_of_stopped hf hc) nofun).trans (if_neg hmiss)

end Sys2Proof.Machine
